-- ==== Sys2Proof/Word.lean ====
section
/-! DEFINITION. The word type of the frames: one byte (R184). All other numbers of the manual are counts, indices or
identities and are `Nat` or `Fin`. -/

namespace Sys2Proof

/-- One byte of a frame, a record form or an argument frame (R184). -/
abbrev Byte := BitVec 8

end Sys2Proof
end

