-- ==== Sys2Proof/Machine/Bytes.lean ====
section
/-! DEFINITION. Numbers and yes/no values in bytes, most significant byte first (R184), and reading an argument frame by
offset. -/

namespace Sys2Proof.Machine

/-- The number a list of bytes spells, most significant byte first (R184). -/
def num (l : List Byte) : Nat := l.foldl (fun a b => a * 256 + b.toNat) 0

/-- `v` in `n` bytes, most significant byte first (R184). -/
def be : Nat → Nat → List Byte
  | 0, _ => []
  | n + 1, v => be n (v / 256) ++ [BitVec.ofNat 8 v]

/-- A yes/no value (R184). -/
def yesNo (b : Bool) : Byte := if b then 1 else 0

/-- Reads a yes/no byte; none for a byte other than 0 and 1 (R192). -/
def readYesNo (b : Byte) : Option Bool :=
  if b = 0 then some false else if b = 1 then some true else none

/-- The number in the `n` bytes from offset `i`. -/
def field (args : List Byte) (i n : Nat) : Nat := num ((args.drop i).take n)

/-- The byte at offset `i` (0 beyond the end; callers check the length first). -/
def byteAt (args : List Byte) (i : Nat) : Byte := args.getD i 0

/-- The byte at offset `i` as a number. -/
def numAt (args : List Byte) (i : Nat) : Nat := (byteAt args i).toNat

end Sys2Proof.Machine
end

