-- ==== Sys2Proof/Config.lean ====
section
/-! DEFINITION. The fixed numbers of the part. Every one is stated by the manual; the part leaves no number to an
implementation and no value undefined, so there is no free value here. -/

namespace Sys2Proof.Config

/-- Greatest site code and card number of a key a record can hold (R1). -/
def maxSite : Nat := 1023
def maxCard : Nat := 1048575

/-- The last site minute (R1, R45). -/
def maxSiteMinute : Nat := 94371839

/-- Floors are 0..159 (R57). -/
def floors : Nat := 160

/-- The Trip Table holds at most 256 open trips (R148). -/
def tripCapacity : Nat := 256

/-- At most 32 LOBBY NOTICEs wait in the transmit queue (R129, R133). -/
def noticeCapacity : Nat := 32

/-- Status counts saturate here (R126, R145). -/
def saturation : Nat := 65535

/-- The period of the LINK CHECK timer in milliseconds (R136). -/
def linkCheckPeriod : Nat := 1000

/-- One second of the internal reference in milliseconds (R40). -/
def second : Nat := 1000

/-- One minute of the internal reference in milliseconds (R161). -/
def minute : Nat := 60000

/-- Length of the release of ATTN in microseconds (R180). -/
def releaseLength : Nat := 2

/-- The start byte of request link and dispatch frames (R186, R189). -/
def startByte : Byte := 126

/-- The kind bytes of the maintenance port (R191). -/
def commandKind : Byte := 195
def responseKind : Byte := 60

/-- Polls in a block of drop supervision (R114). -/
def blockLength : Nat := 64

end Sys2Proof.Config
end

