-- ==== Sys2Proof/Syntax.lean ====
section
/-! DEFINITION. The commands and events of the block: one constructor of `Instr` for each row of spec/opcode_table.json.
The table gives no bits; the operands are those the rows' own rules name. -/

namespace Sys2Proof

/-- A lift group's state as the supervisory system reports it (R131, R144). -/
inductive GroupState where
  | inService
  | outOfService
  | recall
deriving DecidableEq, Repr

/-- The reason a DECLINE carries (R131, R141). -/
inductive DeclineReason where
  | groupFull
  | groupOut
  | noCar
deriving DecidableEq, Repr

/-- How the fall of a transaction's chip select found the part, as far as its rise no longer shows it (R170, R174, R181). -/
inductive Fall where
  /-- The engine stood at the fall as it stands at the rise. -/
  | same
  /-- The engine was still WORKING at the fall, although it is DONE at the rise. -/
  | working
  /-- Chip select fell before the last reset had ended: the transaction was under way when that reset began, or began in it. -/
  | beforeReset
deriving DecidableEq, Repr

/-- The commands and events. A maintenance command carries the argument bytes of its good COMMAND frame (R171, R192) and
`fell`, how the fall of chip select found the part (R170, R174, R181). -/
inductive Instr where
  /-- COLD_RESET (R181): power is applied; `resetHigh` is the level of RESET_N the power-up finds. -/
  | coldReset (resetHigh : Bool)
  /-- WARM_RESET (R181): RESET_N falls. -/
  | warmReset
  /-- RESET_END (R181): RESET_N rises. -/
  | resetEnd
  /-- TICK_EDGE (R40): a rising edge of TICK. -/
  | tickEdge
  /-- INTERNAL_TICK (R40): the divider completes one second. -/
  | internalTick
  /-- CLOCK_END (R42): a tick taken at the clock's last second. -/
  | clockEnd
  /-- TRIP_EXPIRY (R151): a counted tick at which a trip's remaining time is 1. -/
  | tripExpiry
  /-- EMG_ASSERT (R102). -/
  | emgAssert
  /-- EMG_RELEASE (R103). -/
  | emgRelease
  /-- FRAME_ERROR (R170, R171): a transaction to be discarded; `bytes` are all the whole bytes clocked in. -/
  | frameError (fell : Fall) (bytes : List Byte)
  /-- UNKNOWN_COMMAND (R172): a good COMMAND frame whose code names no command. -/
  | unknownCommand (fell : Fall) (code : Byte) (args : List Byte)
  /-- RESPONSE (R174): a RESPONSE transaction in which `clocks` whole bytes are clocked. -/
  | response (fell : Fall) (clocks : Nat)
  /-- PUT_CREDENTIAL (R14). -/
  | putCredential (fell : Fall) (args : List Byte)
  /-- GET_CREDENTIAL (R23). -/
  | getCredential (fell : Fall) (args : List Byte)
  /-- DROP_CREDENTIAL (R19). -/
  | dropCredential (fell : Fall) (args : List Byte)
  /-- SET_STATE (R20). -/
  | setState (fell : Fall) (args : List Byte)
  /-- REPLENISH (R21). -/
  | replenish (fell : Fall) (args : List Byte)
  /-- READ_SLOT (R24). -/
  | readSlot (fell : Fall) (args : List Byte)
  /-- PUT_PROFILE (R51). -/
  | putProfile (fell : Fall) (args : List Byte)
  /-- GET_PROFILE (R52). -/
  | getProfile (fell : Fall) (args : List Byte)
  /-- SET_FLOOR (R59). -/
  | setFloor (fell : Fall) (args : List Byte)
  /-- SET_GROUP (R60). -/
  | setGroup (fell : Fall) (args : List Byte)
  /-- SET_ZONE (R61). -/
  | setZone (fell : Fall) (args : List Byte)
  /-- SET_TRANSFER (R62). -/
  | setTransfer (fell : Fall) (args : List Byte)
  /-- COMMIT_MAP (R63). -/
  | commitMap (fell : Fall) (args : List Byte)
  /-- DISCARD_MAP (R65). -/
  | discardMap (fell : Fall) (args : List Byte)
  /-- READ_MAP (R66). -/
  | readMap (fell : Fall) (args : List Byte)
  /-- SET_LOBBY (R71). -/
  | setLobby (fell : Fall) (args : List Byte)
  /-- SET_DROP (R111). -/
  | setDrop (fell : Fall) (args : List Byte)
  /-- BAR_DROP (R115). -/
  | barDrop (fell : Fall) (args : List Byte)
  /-- UNBAR_DROP (R115). -/
  | unbarDrop (fell : Fall) (args : List Byte)
  /-- SET_LINK (R105). -/
  | setLink (fell : Fall) (args : List Byte)
  /-- WATCH (R125). -/
  | watch (fell : Fall) (args : List Byte)
  /-- READ_WATCH (R126). -/
  | readWatch (fell : Fall) (args : List Byte)
  /-- SET_PATTERN (R34, R35). -/
  | setPattern (fell : Fall) (args : List Byte)
  /-- READ_PATTERN (R36). -/
  | readPattern (fell : Fall) (args : List Byte)
  /-- SET_CLOCK (R43). -/
  | setClock (fell : Fall) (args : List Byte)
  /-- SET_TICK_SOURCE (R44). -/
  | setTickSource (fell : Fall) (args : List Byte)
  /-- PUT_HOLIDAYS (R47). -/
  | putHolidays (fell : Fall) (args : List Byte)
  /-- SET_SITES (R76). -/
  | setSites (fell : Fall) (args : List Byte)
  /-- SET_MODE (R77). -/
  | setMode (fell : Fall) (args : List Byte)
  /-- SET_CLOSURES (R78). -/
  | setClosures (fell : Fall) (args : List Byte)
  /-- SET_TIMERS (R79). -/
  | setTimers (fell : Fall) (args : List Byte)
  /-- SWEEP_NOW (R162). -/
  | sweepNow (fell : Fall) (args : List Byte)
  /-- READ_STATUS (R175). -/
  | readStatus (fell : Fall) (args : List Byte)
  /-- SET_ATTENTION (R178). -/
  | setAttention (fell : Fall) (args : List Byte)
  /-- CLEAR_ATTENTION (R178). -/
  | clearAttention (fell : Fall) (args : List Byte)
  /-- RESTART (R182). -/
  | restart (fell : Fall) (args : List Byte)
  /-- BANK_TURN (R30): the next turn of a bank. -/
  | bankTurn (bank : Fin 4)
  /-- SWEEP_INTERVAL_EXPIRY (R161): the interval timer reaches 0. -/
  | sweepIntervalExpiry
  /-- POLL (R107): a link sends its next poll. -/
  | poll (link : Fin 4)
  /-- POLL_ANSWER (R109, R188): the bytes that answer the poll under way. -/
  | pollAnswer (link : Fin 4) (bytes : List Byte)
  /-- POLL_ANSWER_TIMEOUT (R188): the poll under way fails without a complete frame. -/
  | pollAnswerTimeout (link : Fin 4)
  /-- ASSIGN (R140): a good ASSIGN frame. -/
  | assign (tag : Byte) (car : Fin 16)
  /-- DECLINE (R141): a good DECLINE frame. -/
  | decline (tag : Byte) (reason : DeclineReason)
  /-- GROUP_STATE (R144): a good GROUP STATE frame. -/
  | groupState (group : Fin 12) (state : GroupState)
  /-- LINK_ANSWER (R134): a good LINK ANSWER frame. -/
  | linkAnswer
  /-- DISPATCH_BAD_FRAME (R132, R190): a dispatch frame, complete or ended by its length byte, that is not good. -/
  | dispatchBadFrame (bytes : List Byte)
  /-- DISPATCH_FRAME_GAP (R190): the frame being received ends as incomplete. -/
  | dispatchFrameGap
  /-- FRAME_TRANSMIT (R133): the head frame starts transmission. -/
  | frameTransmit
  /-- FRAME_SENT (R139): the last byte of the frame in transmission is sent. -/
  | frameSent
  /-- OFFER_EXPIRY (R142): the deadline of a pending entry's offer is reached. -/
  | offerExpiry (entry : Fin 64)
  /-- LINK_CHECK_TIMER (R136): the LINK CHECK timer completes 1,000 ms. -/
  | linkCheckTimer
  /-- ATTN_PULSE_END (R180): the 2 µs release ends. -/
  | attnPulseEnd
  /-- FRAME_BEGINS (R190): a byte of value 126 arrives while the receiver is outside a frame. -/
  | frameBegins
deriving DecidableEq, Repr

end Sys2Proof
end

