-- ==== Sys2Proof/Machine/State.lean ====
section
/-! DEFINITION. The state of the part as plain data: every piece of state the manual names, block by block, the queue of
waiting commands, and the state right after reset. -/

namespace Sys2Proof.Machine

/-! ## Floors, keys and records -/

/-- A floor set: the floors it holds, ascending, none twice (R50, R57). -/
abbrev FloorSet := List Nat

/-- A bucket of the Credential Store, 0..4,095 (R2). -/
abbrev Bucket := Fin 4096

/-- A way of a bucket (R3). -/
abbrev Way := Fin 4

/-- A credential key (R1): as carried, even beyond its ranges (R80, R188). -/
structure Key where
  site : Nat
  card : Nat
deriving DecidableEq, Repr

/-- A record's standing (R5). -/
inductive RecordState where
  | active
  | suspended
  | spent
  | lapsed
deriving DecidableEq, Repr

/-- Holder classes (R1). -/
inductive HolderClass where
  | staff
  | visitor
  | contractor
  | service
deriving DecidableEq, Repr

/-- Origin floor and site second of the last journey granted (R1). -/
structure LastUse where
  floor : Nat
  second : Nat
deriving DecidableEq, Repr

/-- What PUT CREDENTIAL carries: a whole record except last use, state since and edition (R14). -/
structure Credential where
  key : Key
  state : RecordState
  holder : HolderClass
  profiles : List (Fin 256)
  personal : List Nat
  defaultFloor : Option Nat
  validFrom : Option Nat
  validUntil : Option Nat
  budget : Option Nat
  assist : Bool
deriving DecidableEq, Repr

/-- A credential record (R1). -/
structure Record where
  key : Key
  state : RecordState
  since : Nat
  holder : HolderClass
  profiles : List (Fin 256)
  personal : List Nat
  defaultFloor : Option Nat
  validFrom : Option Nat
  validUntil : Option Nat
  budget : Option Nat
  assist : Bool
  lastUse : Option LastUse
  edition : Nat
deriving DecidableEq, Repr

/-- The Credential Store: the occupied slots by slot number (bucket × 4 + way), ascending; an unlisted slot is FREE
(R1, R3). -/
structure Store where
  slots : List (Nat × Record)
  /-- R9 -/
  occupancy : Nat
  /-- R12 -/
  edition : Nat
deriving DecidableEq, Repr

/-! ## Bank turns -/

/-- Turn classes (R26). -/
inductive TurnClass where
  | idle
  | lookup
  | upkeep
  | sweep
deriving DecidableEq, Repr

abbrev Pattern := Vector TurnClass 8

/-- A LOOKUP request is a probe or a reversal (R26, R27). -/
inductive LookupKind where
  | probe
  | reversal
deriving DecidableEq, Repr

/-- A LOOKUP request: its bucket, its pending entry and its kind (R26). -/
structure LookupRequest where
  bucket : Bucket
  entry : Fin 64
  kind : LookupKind
deriving DecidableEq, Repr

/-- The store commands with their checked arguments (R13). `setState` carries whether ACTIVE is named (else SUSPENDED, R20);
`replenish` the count, or none for unlimited (R21). -/
inductive StoreCommand where
  | put (c : Credential)
  | get (k : Key)
  | drop (k : Key)
  | setState (k : Key) (active : Bool)
  | replenish (k : Key) (count : Option Nat)
  | readSlot (bucket : Bucket) (way : Way)
deriving DecidableEq, Repr

/-- The phase an UPKEEP request carries out (R13). -/
inductive Phase where
  | first
  | second
  | third
deriving DecidableEq, Repr

/-- An UPKEEP request: its bucket, its store command and the phase (R26). -/
structure UpkeepRequest where
  bucket : Bucket
  command : StoreCommand
  phase : Phase
deriving DecidableEq, Repr

/-- A bank's turn arbiter (R26). -/
structure Bank where
  pattern : Pattern
  staged : Option Pattern
  position : Fin 8
  lookup : List LookupRequest
  upkeep : List UpkeepRequest
  sweep : List Bucket
deriving DecidableEq, Repr

/-! ## Site Clock, profiles, map -/

/-- Clock states (R39). -/
inductive ClockState where
  | unset
  | running
  | ended
deriving DecidableEq, Repr

/-- Tick sources (R39). -/
inductive TickSource where
  | internal
  | external
deriving DecidableEq, Repr

/-- The Site Clock (R39); the divider counts milliseconds of the present second. -/
structure Clock where
  state : ClockState
  day : Nat
  weekday : Nat
  minute : Nat
  second : Nat
  source : TickSource
  divider : Nat
deriving DecidableEq, Repr

/-- A window: day set (bit 0 Monday to bit 6 Sunday, bit 7 Holiday), start minute, end minute (R50, R184). -/
structure Window where
  days : BitVec 8
  start : Nat
  stop : Nat
deriving DecidableEq, Repr

/-- An access profile (R50). -/
structure Profile where
  floors : FloorSet
  windows : List Window
deriving DecidableEq, Repr

/-- A zone table entry (R57). -/
structure ZoneEntry where
  localGroup : Option (Fin 12)
  standby : Option (Fin 12)
deriving DecidableEq, Repr

/-- A transfer table entry (R57). -/
structure Transfer where
  group : Fin 12
  floor : Nat
deriving DecidableEq, Repr

/-- A floor map (R57); transfer entry (a, b) stands at index a × 8 + b, and (a, a) is never present. -/
structure FloorMap where
  count : Nat
  zones : Vector (Option (Fin 8)) 160
  served : Vector FloorSet 12
  zoneTable : Vector ZoneEntry 8
  transfers : Vector (Option Transfer) 64
deriving DecidableEq, Repr

/-- Fallback policies (R71). -/
inductive Fallback where
  | shut
  | opened
deriving DecidableEq, Repr

/-- A Lobby Table entry (R71). -/
structure Lobby where
  origin : Nat
  window : Nat
  policy : Fallback
deriving DecidableEq, Repr

/-! ## Authorization Engine -/

/-- Request kinds (R73, R184). -/
inductive Kind where
  | destination
  | arrival
deriving DecidableEq, Repr

/-- Reply codes other than ACCEPT (R196). -/
inductive ReplyCode where
  | holdEmergency
  | holdClock
  | holdNoAnswer
  | holdBusy
  | holdRecall
  | holdUnavailable
  | denyForeign
  | denyUnknown
  | denySuspended
  | denySpent
  | denyLapsed
  | denyNotYet
  | denyRestricted
  | denyClosed
  | denyFloor
  | denyPassback
  | denyNoRoute
  | refuseBadFloor
  | refuseSameFloor
  | needFloor
  | notReady
  | outOfService
  | busy
deriving DecidableEq, Repr

/-- A reply (R95): ACCEPT carries the group, the car, the target floor and the continuation-available flag; every other
reply its code alone. -/
inductive Reply where
  | accept (group : Fin 12) (car : Fin 16) (target : Nat) (continuation : Bool)
  | plain (code : ReplyCode)
deriving DecidableEq, Repr

/-- Where the record was found, and the edition it carried (R73). -/
structure Found where
  bucket : Bucket
  way : Way
  edition : Nat
deriving DecidableEq, Repr

/-- A route (R68). -/
structure Route where
  group : Fin 12
  target : Nat
  finalFloor : Nat
  tripNeeded : Bool
deriving DecidableEq, Repr

/-- What a decision that offers leaves in the entry (R73, R93). -/
structure Grant where
  route : Route
  budgetTaken : Bool
  useWritten : LastUse
  previous : Option LastUse
deriving DecidableEq, Repr

/-- States of an entry in use (R74). OFFERED holds the tag, the deadline (R139) and whether the OFFER has been completely
sent, which makes the offer outstanding (R139). -/
inductive EntryState where
  | probeHome
  | probeAlt
  | offered (tag : Byte) (deadline : Nat) (sent : Bool)
  | reversing
deriving DecidableEq, Repr

/-- A pending entry in use (R73); drop index d stands for address d + 1. -/
structure Entry where
  link : Fin 4
  drop : Fin 28
  lobby : Fin 16
  origin : Nat
  kind : Kind
  key : Key
  requested : Option Nat
  assist : Bool
  state : EntryState
  found : Option Found
  grant : Option Grant
deriving DecidableEq, Repr

/-- Building modes (R77). -/
inductive BuildingMode where
  | normal
  | restrict
deriving DecidableEq, Repr

/-- The five settings of SET TIMERS (R79). -/
structure Timers where
  offerTimeout : Nat
  tripLifetime : Nat
  retireGrace : Nat
  sweepInterval : Nat
  nearFull : Nat
deriving DecidableEq, Repr

/-- The building-wide conditions (R76 to R79); bit c of the admit set is the holder class with code c (R184). -/
structure Settings where
  sites : List Nat
  mode : BuildingMode
  admitSet : BitVec 4
  closures : FloorSet
  timers : Timers
deriving DecidableEq, Repr

/-! ## Request links -/

/-- Rate granularities (R105). -/
inductive Granularity where
  | power
  | fine
deriving DecidableEq, Repr

/-- A link's settings (R105). -/
structure LinkSettings where
  enabled : Bool
  granularity : Granularity
  divisor : Nat
  limit : Nat
deriving DecidableEq, Repr

/-- A drop's request (R117). -/
structure Request where
  number : Byte
  kind : Kind
  key : Key
  requested : Option Nat
  assist : Bool
deriving DecidableEq, Repr

/-- An open transaction: its request, the pending entry that took it, and the reply slot (R110, R117). -/
structure Transaction where
  request : Request
  entry : Option (Fin 64)
  reply : Option Reply
deriving DecidableEq, Repr

/-- A side answer with the request it answers (R119); the code is NOT_READY, OUT_OF_SERVICE or BUSY. -/
structure SideAnswer where
  code : ReplyCode
  number : Byte
  kind : Kind
  key : Key
  requested : Option Nat
deriving DecidableEq, Repr

/-- Drop states (R110). -/
inductive DropState where
  | disabled
  | seeking
  | online
  | degraded
  | lost
deriving DecidableEq, Repr

/-- Answer modes (R115). -/
inductive AnswerMode where
  | serve
  | barred
deriving DecidableEq, Repr

/-- A drop record (R110). The enabled setting is the state: a drop is DISABLED exactly when it is not enabled. -/
structure Drop where
  lobby : Fin 16
  state : DropState
  mode : AnswerMode
  good : Nat
  failed : Nat
  blockPolls : Nat
  blockFailed : Nat
  transaction : Option Transaction
  side : Option SideAnswer
deriving DecidableEq, Repr

/-- What a poll carries (R107, R187), with the request number. -/
inductive PollItem where
  | nothing
  | reply (r : Reply) (number : Byte)
  | side (code : ReplyCode) (number : Byte)
deriving DecidableEq, Repr

/-- A poll under way: the drop polled, what the poll carries, and the link settings it is timed under (R105, R107). -/
structure Poll where
  drop : Fin 28
  item : PollItem
  settings : LinkSettings
deriving DecidableEq, Repr

/-- A request link (R105, R107); `walk` is the address last polled, 0 where the walk is to start at the lowest enabled
address. -/
structure Link where
  settings : LinkSettings
  drops : Vector Drop 28
  walk : Nat
  poll : Option Poll
deriving DecidableEq, Repr

/-- Lobby service states (R123). -/
inductive Service where
  | vacant
  | served
  | unserved
deriving DecidableEq, Repr

/-- The watch record (R126). -/
structure WatchRecord where
  kind : Kind
  key : Key
  requested : Option Nat
  reply : Reply
deriving DecidableEq, Repr

/-- The watch (R125, R126). -/
structure Watch where
  selection : Option (Fin 4 × Fin 28)
  record : Option WatchRecord
  count : Nat
deriving DecidableEq, Repr

/-! ## Dispatch link -/

/-- Offer kinds (R93). -/
inductive OfferKind where
  | new
  | continuation
deriving DecidableEq, Repr

/-- The fields of an OFFER (R130). -/
structure Offer where
  tag : Byte
  group : Fin 12
  origin : Nat
  target : Nat
  finalFloor : Nat
  assist : Bool
  kind : OfferKind
deriving DecidableEq, Repr

/-- A frame the part sends (R130). An OFFER names the pending entry whose offer it is, or none once that offer has expired
while the frame is in transmission (R142). -/
inductive TxFrame where
  | offer (owner : Option (Fin 64)) (o : Offer)
  | notice (lobby : Fin 16) (service : Service) (policy : Fallback)
  | linkCheck
deriving DecidableEq, Repr

/-- Dispatch link states (R129). -/
inductive LinkState where
  | silent
  | active
deriving DecidableEq, Repr

/-- The receiver's two conditions (R190). -/
inductive Receiver where
  | outside
  | assembling
deriving DecidableEq, Repr

/-- The dispatch link controller (R129, R190). `checkTimer` is the time to the next LINK CHECK in milliseconds, none while
stopped (R136). -/
structure DispatchLink where
  state : LinkState
  timeouts : Nat
  tagCounter : Byte
  queue : List TxFrame
  sending : Option TxFrame
  owed : Bool
  checkTimer : Option Nat
  groups : Vector GroupState 12
  frameErrors : Nat
  staleAnswers : Nat
  receiver : Receiver
deriving DecidableEq, Repr

/-! ## Trips and sweep -/

/-- An open trip (R148). -/
structure Trip where
  key : Key
  transfer : Nat
  finalFloor : Nat
  group : Fin 12
  remaining : Nat
deriving DecidableEq, Repr

/-- Sweep states (R160). -/
inductive SweepState where
  | idle
  | passing
deriving DecidableEq, Repr

/-- The Retirement Sweeper (R160); `timer` is in milliseconds, none while stopped. -/
structure Sweeper where
  state : SweepState
  pointer : Bucket
  timer : Option Nat
  passLapsed : Nat
  passRetired : Nat
  lastLapsed : Nat
  lastRetired : Nat
deriving DecidableEq, Repr

/-! ## Command engine and attention -/

/-- States of the command engine (R172). -/
inductive EngineState where
  | idle
  | working
  | done
deriving DecidableEq, Repr

/-- Last-transaction outcomes (R171). -/
inductive PortOutcome where
  | none
  | taken
  | refusedBusy
  | frameError
deriving DecidableEq, Repr

/-- Reset indications (R174). -/
inductive ResetIndication where
  | none
  | cold
  | warm
deriving DecidableEq, Repr

/-- Result codes (R196). -/
inductive ResultCode where
  | ok
  | okClamped
  | okNew
  | okReplaced
  | okLapsed
  | badArg
  | unknownCommand
  | notFound
  | tableFull
  | wrongState
  | busy
  | invalidMap
deriving DecidableEq, Repr

/-- A result: its code and its bytes (R173). -/
structure Result where
  code : ResultCode
  bytes : List Byte
deriving DecidableEq, Repr

/-- The command engine (R171 to R174). `out` is the model's own field: the bytes the part clocked out in the last
transaction. -/
structure Port where
  engine : EngineState
  outcome : PortOutcome
  indication : ResetIndication
  buffer : Option Result
  out : List Byte
deriving DecidableEq, Repr

/-- Attention sources (R176). -/
inductive Source where
  | dropChange
  | tamper
  | lobbyChange
  | dispatchChange
  | sweepDone
  | nearFull
  | commandDone
  | clockEnd
deriving DecidableEq, Repr

/-- ATTN modes (R178). -/
inductive AttnMode where
  | level
  | pulse
deriving DecidableEq, Repr

/-- The attention unit (R176, R178, R180): pending and enable flags numbered as R184 numbers the sources, the mode, and the
microseconds left of a 2 µs release. -/
structure Attention where
  pending : BitVec 8
  enables : BitVec 8
  mode : AttnMode
  release : Nat
deriving DecidableEq, Repr

/-! ## The whole part -/

/-- The state of the part. -/
structure State where
  store : Store
  banks : Vector Bank 4
  clock : Clock
  holidays : List Nat
  profiles : Vector Profile 256
  live : FloorMap
  staged : FloorMap
  lobbies : Vector Lobby 16
  entries : Vector (Option Entry) 64
  settings : Settings
  /-- The level of EMG as the part reads it (R103). -/
  emg : Bool
  links : Vector Link 4
  service : Vector Service 16
  watch : Watch
  dispatch : DispatchLink
  trips : List Trip
  sweeper : Sweeper
  port : Port
  attention : Attention
  /-- RESET_N is low: the part stays in reset (R181). -/
  inReset : Bool
  /-- The present time of the internal reference in milliseconds (R139). -/
  reference : Nat
  /-- The commands that wait, first in, first out: the model's own field. -/
  pending : List Instr
deriving DecidableEq, Repr

/-- The part has no fault that stops it: a bad frame is discarded and counted (R132, R171) and a bad command is answered by a
result (R13, R172). -/
inductive Fault where
deriving DecidableEq, Repr

/-- Why the model gives a command no next state. -/
inductive Refusal where
  /-- Raised by `exec`'s arms for a command that has no meaning yet; safe, the model stops. -/
  | notModelled (mnemonic : String)
  /-- Raised by FRAME_ERROR, UNKNOWN_COMMAND and DISPATCH_BAD_FRAME where the operand contradicts the row (bytes that are a
  good transaction or a good frame, a code that is known): there is no such event; safe, the model stops. -/
  | notThisEvent
deriving DecidableEq, Repr

/-! ## Reset values -/

/-- The pattern of a cold reset (R37). -/
def coldPattern : Pattern :=
  #v[.lookup, .upkeep, .lookup, .sweep, .lookup, .upkeep, .lookup, .idle]

/-- A bank after a cold reset (R37). -/
def coldBank : Bank :=
  { pattern := coldPattern, staged := none, position := 0, lookup := [], upkeep := [], sweep := [] }

/-- The clock after a cold reset (R46). -/
def coldClock : Clock :=
  { state := .unset, day := 0, weekday := 0, minute := 0, second := 0, source := .internal, divider := 0 }

/-- Both maps after a cold reset (R67). -/
def coldMap : FloorMap :=
  { count := 0, zones := Vector.replicate 160 none, served := Vector.replicate 12 [],
    zoneTable := Vector.replicate 8 { localGroup := none, standby := none },
    transfers := Vector.replicate 64 none }

/-- The settings after a cold reset (R79, R104). -/
def coldSettings : Settings :=
  { sites := [], mode := .normal, admitSet := 15, closures := [],
    timers := { offerTimeout := 1500, tripLifetime := 300, retireGrace := 1440, sweepInterval := 15, nearFull := 15000 } }

/-- A drop after a cold reset (R127). -/
def coldDrop : Drop :=
  { lobby := 0, state := .disabled, mode := .serve, good := 0, failed := 0, blockPolls := 0, blockFailed := 0,
    transaction := none, side := none }

/-- A link after a cold reset (R105, R127). -/
def coldLink : Link :=
  { settings := { enabled := false, granularity := .power, divisor := 0, limit := 4 },
    drops := Vector.replicate 28 coldDrop, walk := 0, poll := none }

/-- The dispatch link controller in either reset (R146, R147): the LINK CHECK timer starts at the end of the reset. -/
def resetDispatch : DispatchLink :=
  { state := .silent, timeouts := 3, tagCounter := 0, queue := [], sending := none, owed := false, checkTimer := none,
    groups := Vector.replicate 12 .inService, frameErrors := 0, staleAnswers := 0, receiver := .outside }

/-- The sweeper after a cold reset (R169): the interval timer holds 15 minutes. -/
def coldSweeper : Sweeper :=
  { state := .idle, pointer := 0, timer := some 900000, passLapsed := 0, passRetired := 0, lastLapsed := 0, lastRetired := 0 }

/-- The part in a cold reset, before RESET_N is high (R181): every block in its cold state. EMG released and the reference
at 0 are DESIGN CHOICEs (notes/assumptions/2.md, 3.md). -/
def State.cold : State :=
  { store := { slots := [], occupancy := 0, edition := 0 }
    banks := Vector.replicate 4 coldBank
    clock := coldClock
    holidays := []
    profiles := Vector.replicate 256 { floors := [], windows := [] }
    live := coldMap
    staged := coldMap
    lobbies := Vector.replicate 16 { origin := 0, window := 0, policy := .shut }
    entries := Vector.replicate 64 none
    settings := coldSettings
    emg := false
    links := Vector.replicate 4 coldLink
    service := Vector.replicate 16 .vacant
    watch := { selection := none, record := none, count := 0 }
    dispatch := resetDispatch
    trips := []
    sweeper := coldSweeper
    port := { engine := .idle, outcome := .none, indication := .cold, buffer := none, out := [] }
    attention := { pending := 0, enables := 0, mode := .level, release := 0 }
    inReset := true
    reference := 0
    pending := [] }

/-- The part right after a cold reset that has ended (R146, R181): the first LINK CHECK is composed and the LINK CHECK timer
runs. -/
def State.reset : State :=
  { State.cold with
    inReset := false
    dispatch := { resetDispatch with queue := [.linkCheck], checkTimer := some Config.linkCheckPeriod } }

end Sys2Proof.Machine
end

