-- ==== Sys2Proof/Machine/Codes.lean ====
section
/-! DEFINITION. The codes of the enumerations (R184) and of results and replies (R196). -/

namespace Sys2Proof.Machine

/-- Record state codes (R184); a FREE way is code 0. -/
def RecordState.code : RecordState → Nat
  | .active => 1
  | .suspended => 2
  | .spent => 3
  | .lapsed => 4

def freeCode : Nat := 0

def RecordState.ofCode : Nat → Option RecordState
  | 1 => some .active
  | 2 => some .suspended
  | 3 => some .spent
  | 4 => some .lapsed
  | _ => none

def HolderClass.code : HolderClass → Nat
  | .staff => 0
  | .visitor => 1
  | .contractor => 2
  | .service => 3

def HolderClass.ofCode : Nat → Option HolderClass
  | 0 => some .staff
  | 1 => some .visitor
  | 2 => some .contractor
  | 3 => some .service
  | _ => none

def Kind.code : Kind → Nat
  | .destination => 1
  | .arrival => 2

def Kind.ofCode : Nat → Option Kind
  | 1 => some .destination
  | 2 => some .arrival
  | _ => none

def OfferKind.code : OfferKind → Nat
  | .new => 0
  | .continuation => 1

def groupStateCode : GroupState → Nat
  | .inService => 0
  | .outOfService => 1
  | .recall => 2

def groupStateOfCode : Nat → Option GroupState
  | 0 => some .inService
  | 1 => some .outOfService
  | 2 => some .recall
  | _ => none

def declineReasonCode : DeclineReason → Nat
  | .groupFull => 1
  | .groupOut => 2
  | .noCar => 3

def declineReasonOfCode : Nat → Option DeclineReason
  | 1 => some .groupFull
  | 2 => some .groupOut
  | 3 => some .noCar
  | _ => none

def Service.code : Service → Nat
  | .vacant => 0
  | .served => 1
  | .unserved => 2

def Fallback.code : Fallback → Nat
  | .shut => 0
  | .opened => 1

def Fallback.ofCode : Nat → Option Fallback
  | 0 => some .shut
  | 1 => some .opened
  | _ => none

def DropState.code : DropState → Nat
  | .disabled => 0
  | .seeking => 1
  | .online => 2
  | .degraded => 3
  | .lost => 4

def AnswerMode.code : AnswerMode → Nat
  | .serve => 0
  | .barred => 1

def TurnClass.code : TurnClass → Nat
  | .idle => 0
  | .lookup => 1
  | .upkeep => 2
  | .sweep => 3

def TurnClass.ofCode : Nat → Option TurnClass
  | 0 => some .idle
  | 1 => some .lookup
  | 2 => some .upkeep
  | 3 => some .sweep
  | _ => none

def ClockState.code : ClockState → Nat
  | .unset => 0
  | .running => 1
  | .ended => 2

def TickSource.code : TickSource → Nat
  | .internal => 0
  | .external => 1

def TickSource.ofCode : Nat → Option TickSource
  | 0 => some .internal
  | 1 => some .external
  | _ => none

def BuildingMode.code : BuildingMode → Nat
  | .normal => 0
  | .restrict => 1

def BuildingMode.ofCode : Nat → Option BuildingMode
  | 0 => some .normal
  | 1 => some .restrict
  | _ => none

def Granularity.code : Granularity → Nat
  | .power => 0
  | .fine => 1

def Granularity.ofCode : Nat → Option Granularity
  | 0 => some .power
  | 1 => some .fine
  | _ => none

def AttnMode.code : AttnMode → Nat
  | .level => 0
  | .pulse => 1

def AttnMode.ofCode : Nat → Option AttnMode
  | 0 => some .level
  | 1 => some .pulse
  | _ => none

def LinkState.code : LinkState → Nat
  | .silent => 0
  | .active => 1

def SweepState.code : SweepState → Nat
  | .idle => 0
  | .passing => 1

/-- Status byte codes of the engine state, the outcome and the reset indication (R191). -/
def EngineState.code : EngineState → Nat
  | .idle => 0
  | .working => 1
  | .done => 2

def PortOutcome.code : PortOutcome → Nat
  | .none => 0
  | .taken => 1
  | .refusedBusy => 2
  | .frameError => 3

def ResetIndication.code : ResetIndication → Nat
  | .none => 0
  | .cold => 1
  | .warm => 2

/-- The bit of each attention source (R184). -/
def Source.bit : Source → Nat
  | .dropChange => 0
  | .tamper => 1
  | .lobbyChange => 2
  | .dispatchChange => 3
  | .sweepDone => 4
  | .nearFull => 5
  | .commandDone => 6
  | .clockEnd => 7

/-- A set of one attention source. -/
def Source.mask (x : Source) : BitVec 8 := 1#8 <<< x.bit

/-- Result codes (R196). -/
def ResultCode.code : ResultCode → Nat
  | .ok => 0
  | .okClamped => 1
  | .okNew => 2
  | .okReplaced => 3
  | .okLapsed => 4
  | .badArg => 16
  | .unknownCommand => 17
  | .notFound => 18
  | .tableFull => 19
  | .wrongState => 20
  | .busy => 21
  | .invalidMap => 22

/-- Reply codes other than ACCEPT (R196). -/
def ReplyCode.code : ReplyCode → Nat
  | .holdEmergency => 16
  | .holdClock => 17
  | .holdNoAnswer => 18
  | .holdBusy => 19
  | .holdRecall => 20
  | .holdUnavailable => 21
  | .denyForeign => 32
  | .denyUnknown => 33
  | .denySuspended => 34
  | .denySpent => 35
  | .denyLapsed => 36
  | .denyNotYet => 37
  | .denyRestricted => 38
  | .denyClosed => 39
  | .denyFloor => 40
  | .denyPassback => 41
  | .denyNoRoute => 42
  | .refuseBadFloor => 48
  | .refuseSameFloor => 49
  | .needFloor => 56
  | .notReady => 64
  | .outOfService => 65
  | .busy => 66

/-- Reply codes; ACCEPT is 0 (R196). -/
def Reply.code : Reply → Nat
  | .accept _ _ _ _ => 0
  | .plain c => c.code

/-- A code, floor, identity or count in one byte (R192). -/
def byte1 (n : Nat) : Byte := BitVec.ofNat 8 n

/-- An optional group or zone in one byte, 255 for absent (R192). -/
def optByte {n : Nat} : Option (Fin n) → Byte
  | some g => byte1 g
  | none => 255

end Sys2Proof.Machine
end

