-- ==== Sys2Proof/Machine/Frames.lean ====
section
/-! DEFINITION. The frames that cross the part's boundary (R185 to R191): the link check, the polls and dispatch frames the
part sends, and the reading of answers, dispatch frames and maintenance transactions. -/

namespace Sys2Proof.Machine

/-! ## The link check (R185) -/

/-- One step of the two running sums. -/
def sumStep (s : Nat × Nat) (b : Byte) : Nat × Nat :=
  let a := (s.1 + b.toNat) % 255
  (a, (s.2 + a) % 255)

/-- Check A and check B of the covered bytes. -/
def linkCheck (covered : List Byte) : List Byte :=
  let s := covered.foldl sumStep (0, 0)
  [byte1 s.1, byte1 s.2]

/-- A frame: start byte, covered bytes, check bytes (R185, R186, R189). -/
def frame (covered : List Byte) : List Byte :=
  Config.startByte :: covered ++ linkCheck covered

/-! ## Request link frames (R186 to R188) -/

/-- The fields of a POLL (R187). -/
def PollItem.fields : PollItem → List Byte
  | .nothing => [0]
  | .reply (.accept g car target cont) number =>
      [1, byte1 (Reply.accept g car target cont).code, number, byte1 g, byte1 car, byte1 target, yesNo cont]
  | .reply (.plain c) number => [1, byte1 c.code, number]
  | .side c number => [2, byte1 c.code, number]

/-- The address of a drop index. -/
def address (d : Fin 28) : Nat := d.val + 1

/-- The POLL frame of a drop (R187). -/
def pollFrame (d : Fin 28) (item : PollItem) : List Byte :=
  frame (byte1 (address d) :: 1 :: byte1 item.fields.length :: item.fields)

/-- A good answer: its TAMPER flag and, for a REQUEST, its request (R108, R188). -/
structure Answer where
  tamper : Bool
  request : Option Request
deriving DecidableEq, Repr

/-- The content of a good answer's fields by type; none where type, length or kind is malformed (R108, R188). -/
def answerContent (type : Byte) (fields : List Byte) : Option Answer :=
  match type.toNat, fields with
  | 2, [flags] => some { tamper := flags.getLsbD 0, request := none }
  | 3, [flags, number, kind, s1, s0, c2, c1, c0, floor] =>
    match Kind.ofCode kind.toNat with
    | none => none
    | some k =>
      some
        { tamper := flags.getLsbD 0
          request := some
            { number := number
              kind := k
              key := { site := num [s1, s0], card := num [c2, c1, c0] }
              requested := if k = .destination then some floor.toNat else none
              assist := flags.getLsbD 1 } }
  | _, _ => none

/-- Reads the bytes that answer a poll of drop `d`: the good answer, or none for a bad one (R108, R188). Bytes after a
complete frame are not read. -/
def readAnswer (d : Fin 28) (bytes : List Byte) : Option Answer :=
  match bytes with
  | start :: addr :: type :: len :: rest =>
    if start = Config.startByte ∧ len.toNat ≤ 9 ∧ len.toNat + 2 ≤ rest.length
        ∧ (rest.drop len.toNat).take 2 = linkCheck (addr :: type :: len :: rest.take len.toNat)
        ∧ addr.toNat = address d then
      answerContent type (rest.take len.toNat)
    else none
  | _ => none

/-- Whether the bytes are one complete request link answer frame: start byte, a length of at most 9, length + 6 bytes
(R186, R188). -/
def answerComplete (bytes : List Byte) : Bool :=
  match bytes with
  | start :: _ :: _ :: len :: _ => start == Config.startByte && decide (len.toNat ≤ 9) && bytes.length == len.toNat + 6
  | _ => false

/-! ## Dispatch frames (R189, R190) -/

/-- The bytes of a dispatch frame the part sends (R189). -/
def dispatchFrame : TxFrame → List Byte
  | .offer _ o =>
      frame [16, 7, o.tag, byte1 o.group, byte1 o.origin, byte1 o.target, byte1 o.finalFloor, yesNo o.assist,
        byte1 o.kind.code]
  | .notice lobby service policy => frame [17, 3, byte1 lobby, byte1 service.code, byte1 policy.code]
  | .linkCheck => frame [18, 0]

/-- The content of a dispatch frame by type and fields; none where it is not well formed (R131, R190). -/
def dispatchContent (type : Byte) (fields : List Byte) : Option Instr :=
  match type.toNat, fields with
  | 32, [tag, car] => if h : car.toNat < 16 then some (.assign tag ⟨car.toNat, h⟩) else none
  | 33, [tag, reason] => (declineReasonOfCode reason.toNat).map fun r => .decline tag r
  | 34, [group, state] =>
    if h : group.toNat < 12 then (groupStateOfCode state.toNat).map fun g => .groupState ⟨group.toNat, h⟩ g else none
  | 35, [] => some .linkAnswer
  | _, _ => none

/-- Reads a complete dispatch frame: the event of a good frame, or none where it is not good (R132, R190). -/
def readDispatch (bytes : List Byte) : Option Instr :=
  match bytes with
  | start :: type :: len :: rest =>
    if start = Config.startByte ∧ len.toNat ≤ 7 ∧ rest.length = len.toNat + 2
        ∧ rest.drop len.toNat = linkCheck (type :: len :: rest.take len.toNat) then
      dispatchContent type (rest.take len.toNat)
    else none
  | _ => none

/-- Whether the bytes are one complete dispatch frame: start byte, a length of at most 7, length + 5 bytes (R189, R190). -/
def dispatchComplete (bytes : List Byte) : Bool :=
  match bytes with
  | start :: _ :: len :: _ => start == Config.startByte && decide (len.toNat ≤ 7) && bytes.length == len.toNat + 5
  | _ => false

/-- Whether the bytes are a dispatch frame ended by its length byte, which is greater than 7 (R190). -/
def dispatchOverlong (bytes : List Byte) : Bool :=
  match bytes with
  | [start, _, len] => start == Config.startByte && decide (7 < len.toNat)
  | _ => false

/-! ## Maintenance transactions (R170, R171, R191) -/

/-- What the bytes clocked in by one transaction are. -/
inductive PortTransfer where
  | nothing
  | discarded
  | command (code : Byte) (args : List Byte)
  | response
deriving DecidableEq, Repr

/-- The sum of a frame's bytes mod 256 (R171). -/
def byteSum (l : List Byte) : Nat := (l.foldl (fun a b => a + b.toNat) 0) % 256

/-- Code and arguments of a good command frame: its length agrees and its sum is 0 mod 256 (R171, R191). -/
def goodCommand (l : List Byte) : Option (Byte × List Byte) :=
  match l with
  | code :: n :: rest =>
    if rest.length = n.toNat + 1 ∧ byteSum l = 0 then some (code, rest.take n.toNat) else none
  | _ => none

/-- What a transaction is, from all its whole bytes (R170). -/
def classify (bytes : List Byte) : PortTransfer :=
  match bytes with
  | [] => .nothing
  | kind :: rest =>
    if kind = Config.commandKind then
      match goodCommand rest with
      | some (code, args) => .command code args
      | none => .discarded
    else if kind = Config.responseKind then .response
    else .discarded

/-- The bytes of a COMMAND transaction (R191). -/
def commandBytes (code : Byte) (args : List Byte) : List Byte :=
  let head := code :: byte1 args.length :: args
  Config.commandKind :: head ++ [byte1 (256 - byteSum head)]

/-- The bytes of a RESPONSE transaction of `n` whole bytes: the kind byte, then bytes that are not read (R191). -/
def responseBytes (n : Nat) : List Byte := (Config.responseKind :: List.replicate n 0).take n

/-- The command codes of R195. -/
def knownCodes : List Nat :=
  [16, 17, 18, 19, 20, 21, 24, 25, 32, 33, 34, 35, 36, 37, 38, 39, 48, 49, 50, 51, 52, 53, 56, 57, 64, 65, 66, 72, 73, 74,
    75, 80, 96, 97, 98, 99]

end Sys2Proof.Machine
end

