-- ==== Sys2Proof/Decode.lean ====
section
/-! DEFINITION. Reading commands from bits and bytes. spec/opcode_table.json gives no row any bits, so no word spells a command.
The bytes that cross the part's boundary do: a maintenance transaction (R170, R191, R195) is read here, and written by an
encoder; dispatch frames and answers are read in Machine/Frames.lean. -/

namespace Sys2Proof

/-- The command a word of the opcode table's bits spells: the table gives no row any bits (98_reader.md), so none. -/
def decodeTableWord (_nbits _w : Nat) : Option Instr := none

/-- The command a good COMMAND frame carries, by its code (R195); a code that names no command is UNKNOWN_COMMAND (R172). -/
def commandOfCode (fell : Fall) (code : Byte) (args : List Byte) : Instr :=
  match code.toNat with
  | 16 => .putCredential fell args
  | 17 => .getCredential fell args
  | 18 => .dropCredential fell args
  | 19 => .setState fell args
  | 20 => .replenish fell args
  | 21 => .readSlot fell args
  | 24 => .putProfile fell args
  | 25 => .getProfile fell args
  | 32 => .setFloor fell args
  | 33 => .setGroup fell args
  | 34 => .setZone fell args
  | 35 => .setTransfer fell args
  | 36 => .commitMap fell args
  | 37 => .discardMap fell args
  | 38 => .readMap fell args
  | 39 => .setLobby fell args
  | 48 => .setDrop fell args
  | 49 => .barDrop fell args
  | 50 => .unbarDrop fell args
  | 51 => .setLink fell args
  | 52 => .watch fell args
  | 53 => .readWatch fell args
  | 56 => .setPattern fell args
  | 57 => .readPattern fell args
  | 64 => .setClock fell args
  | 65 => .setTickSource fell args
  | 66 => .putHolidays fell args
  | 72 => .setSites fell args
  | 73 => .setMode fell args
  | 74 => .setClosures fell args
  | 75 => .setTimers fell args
  | 80 => .sweepNow fell args
  | 96 => .readStatus fell args
  | 97 => .setAttention fell args
  | 98 => .clearAttention fell args
  | 99 => .restart fell args
  | _ => .unknownCommand fell code args

/-- The command a maintenance transaction is, from all its whole bytes (R170, R171); none where no whole byte was clocked
in. -/
def decodePort (fell : Fall) (bytes : List Byte) : Option Instr :=
  match Machine.classify bytes with
  | .nothing => none
  | .discarded => some (.frameError fell bytes)
  | .command code args => some (commandOfCode fell code args)
  | .response => some (.response fell bytes.length)

/-- The bytes of a maintenance transaction that is the command (R191, R195); none for the commands of the links, the lines and
the timers. -/
def encodePort (i : Instr) : Option (List Byte) :=
  match i with
  | .putCredential _ args => some (Machine.commandBytes 16 args)
  | .getCredential _ args => some (Machine.commandBytes 17 args)
  | .dropCredential _ args => some (Machine.commandBytes 18 args)
  | .setState _ args => some (Machine.commandBytes 19 args)
  | .replenish _ args => some (Machine.commandBytes 20 args)
  | .readSlot _ args => some (Machine.commandBytes 21 args)
  | .putProfile _ args => some (Machine.commandBytes 24 args)
  | .getProfile _ args => some (Machine.commandBytes 25 args)
  | .setFloor _ args => some (Machine.commandBytes 32 args)
  | .setGroup _ args => some (Machine.commandBytes 33 args)
  | .setZone _ args => some (Machine.commandBytes 34 args)
  | .setTransfer _ args => some (Machine.commandBytes 35 args)
  | .commitMap _ args => some (Machine.commandBytes 36 args)
  | .discardMap _ args => some (Machine.commandBytes 37 args)
  | .readMap _ args => some (Machine.commandBytes 38 args)
  | .setLobby _ args => some (Machine.commandBytes 39 args)
  | .setDrop _ args => some (Machine.commandBytes 48 args)
  | .barDrop _ args => some (Machine.commandBytes 49 args)
  | .unbarDrop _ args => some (Machine.commandBytes 50 args)
  | .setLink _ args => some (Machine.commandBytes 51 args)
  | .watch _ args => some (Machine.commandBytes 52 args)
  | .readWatch _ args => some (Machine.commandBytes 53 args)
  | .setPattern _ args => some (Machine.commandBytes 56 args)
  | .readPattern _ args => some (Machine.commandBytes 57 args)
  | .setClock _ args => some (Machine.commandBytes 64 args)
  | .setTickSource _ args => some (Machine.commandBytes 65 args)
  | .putHolidays _ args => some (Machine.commandBytes 66 args)
  | .setSites _ args => some (Machine.commandBytes 72 args)
  | .setMode _ args => some (Machine.commandBytes 73 args)
  | .setClosures _ args => some (Machine.commandBytes 74 args)
  | .setTimers _ args => some (Machine.commandBytes 75 args)
  | .sweepNow _ args => some (Machine.commandBytes 80 args)
  | .readStatus _ args => some (Machine.commandBytes 96 args)
  | .setAttention _ args => some (Machine.commandBytes 97 args)
  | .clearAttention _ args => some (Machine.commandBytes 98 args)
  | .restart _ args => some (Machine.commandBytes 99 args)
  | .unknownCommand _ code args => some (Machine.commandBytes code args)
  | .frameError _ bytes => some bytes
  | .response _ clocks => some (Machine.responseBytes clocks)
  | .coldReset _ | .warmReset | .resetEnd | .tickEdge | .internalTick | .clockEnd | .tripExpiry
  | .emgAssert | .emgRelease | .bankTurn _ | .sweepIntervalExpiry | .poll _ | .pollAnswer _ _ | .pollAnswerTimeout _
  | .assign _ _ | .decline _ _ | .groupState _ _ | .linkAnswer | .dispatchBadFrame _ | .dispatchFrameGap | .frameTransmit
  | .frameSent | .offerExpiry _ | .linkCheckTimer | .attnPulseEnd | .frameBegins => none

/-- How the fall of chip select found the part, as the command says. -/
def commandFell (i : Instr) : Fall :=
  match i with
  | .putCredential fell _ => fell
  | .getCredential fell _ => fell
  | .dropCredential fell _ => fell
  | .setState fell _ => fell
  | .replenish fell _ => fell
  | .readSlot fell _ => fell
  | .putProfile fell _ => fell
  | .getProfile fell _ => fell
  | .setFloor fell _ => fell
  | .setGroup fell _ => fell
  | .setZone fell _ => fell
  | .setTransfer fell _ => fell
  | .commitMap fell _ => fell
  | .discardMap fell _ => fell
  | .readMap fell _ => fell
  | .setLobby fell _ => fell
  | .setDrop fell _ => fell
  | .barDrop fell _ => fell
  | .unbarDrop fell _ => fell
  | .setLink fell _ => fell
  | .watch fell _ => fell
  | .readWatch fell _ => fell
  | .setPattern fell _ => fell
  | .readPattern fell _ => fell
  | .setClock fell _ => fell
  | .setTickSource fell _ => fell
  | .putHolidays fell _ => fell
  | .setSites fell _ => fell
  | .setMode fell _ => fell
  | .setClosures fell _ => fell
  | .setTimers fell _ => fell
  | .sweepNow fell _ => fell
  | .readStatus fell _ => fell
  | .setAttention fell _ => fell
  | .clearAttention fell _ => fell
  | .restart fell _ => fell
  | .unknownCommand fell _ _ => fell
  | .frameError fell _ => fell
  | .response fell _ => fell
  | .coldReset _ | .warmReset | .resetEnd | .tickEdge | .internalTick | .clockEnd | .tripExpiry
  | .emgAssert | .emgRelease | .bankTurn _ | .sweepIntervalExpiry | .poll _ | .pollAnswer _ _ | .pollAnswerTimeout _
  | .assign _ _ | .decline _ _ | .groupState _ _ | .linkAnswer | .dispatchBadFrame _ | .dispatchFrameGap | .frameTransmit
  | .frameSent | .offerExpiry _ | .linkCheckTimer | .attnPulseEnd | .frameBegins => .same

/-- The dispatch frame of a command that the supervisory system's good frame is (R189); none for the others. -/
def encodeDispatch (i : Instr) : Option (List Byte) :=
  match i with
  | .assign tag car => some (Machine.frame [32, 2, tag, Machine.byte1 car])
  | .decline tag reason => some (Machine.frame [33, 2, tag, Machine.byte1 (Machine.declineReasonCode reason)])
  | .groupState group state => some (Machine.frame [34, 2, Machine.byte1 group, Machine.byte1 (Machine.groupStateCode state)])
  | .linkAnswer => some (Machine.frame [35, 0])
  | .coldReset _ | .warmReset | .resetEnd | .tickEdge | .internalTick | .clockEnd
  | .tripExpiry | .emgAssert | .emgRelease | .frameError _ _ | .unknownCommand _ _ _ | .response _ _
  | .putCredential _ _ | .getCredential _ _ | .dropCredential _ _ | .setState _ _ | .replenish _ _ | .readSlot _ _
  | .putProfile _ _ | .getProfile _ _ | .setFloor _ _ | .setGroup _ _ | .setZone _ _ | .setTransfer _ _
  | .commitMap _ _ | .discardMap _ _ | .readMap _ _ | .setLobby _ _ | .setDrop _ _ | .barDrop _ _
  | .unbarDrop _ _ | .setLink _ _ | .watch _ _ | .readWatch _ _ | .setPattern _ _ | .readPattern _ _
  | .setClock _ _ | .setTickSource _ _ | .putHolidays _ _ | .setSites _ _ | .setMode _ _ | .setClosures _ _
  | .setTimers _ _ | .sweepNow _ _ | .readStatus _ _ | .setAttention _ _ | .clearAttention _ _ | .restart _ _
  | .bankTurn _ | .sweepIntervalExpiry | .poll _ | .pollAnswer _ _ | .pollAnswerTimeout _ | .dispatchBadFrame _
  | .dispatchFrameGap | .frameTransmit | .frameSent | .offerExpiry _ | .linkCheckTimer | .attnPulseEnd
  | .frameBegins => none

end Sys2Proof
end

