-- ==== Sys2Proof/Machine/Flags.lean ====
section
/-! DEFINITION. The attention unit: raising and clearing sources, the 2 µs release, and the ATTN line (R176 to R181). -/

namespace Sys2Proof.Machine

/-- The sources that are both pending and enabled (R179). -/
def Attention.live (a : Attention) : BitVec 8 := a.pending &&& a.enables

/-- Raises a source: a pending source stays pending (R176). -/
def Attention.raise (a : Attention) (x : Source) : Attention := { a with pending := a.pending ||| x.mask }

/-- Clears the named sources (R176, R178). -/
def Attention.clear (a : Attention) (set : BitVec 8) : Attention := { a with pending := a.pending &&& ~~~set }

/-- The pulse test of R180, made after a clear: `cleared` are the enabled pending sources the event cleared. In PULSE mode,
where one was cleared and an enabled source is still pending, ATTN is released for 2 µs from this clear. -/
def Attention.pulse (a : Attention) (cleared : BitVec 8) : Attention :=
  if a.mode = .pulse ∧ cleared ≠ 0 ∧ a.live ≠ 0 then { a with release := Config.releaseLength } else a

/-- Whether a source is pending. -/
def Attention.isPending (a : Attention) (x : Source) : Bool := a.pending.getLsbD x.bit

/-- Raises an attention source of the part. -/
def State.raise (s : State) (x : Source) : State := { s with attention := s.attention.raise x }

/-- The ATTN line: asserted while a source is both pending and enabled (R179), but released in reset (R181) and, in PULSE
mode, during the 2 µs release (R180). -/
def State.attn (s : State) : Bool :=
  !s.inReset && s.attention.live != 0 && (s.attention.mode == .level || s.attention.release == 0)

end Sys2Proof.Machine
end

