-- ==== Sys2Proof/Machine/Forms.lean ====
section
/-! DEFINITION. The result forms of R193 to R195: what the part writes into the result buffer. -/

namespace Sys2Proof.Machine

/-- A list in `n` bytes, unused bytes 0 (R194). -/
def padded (n : Nat) (l : List Byte) : List Byte := (l ++ List.replicate n 0).take n

/-- A key in 5 bytes (R192). -/
def keyBytes (k : Key) : List Byte := be 2 k.site ++ be 3 k.card

/-- The presence and assist byte of the record form (R193). -/
def Record.flags (r : Record) : Byte :=
  byte1 (r.defaultFloor.isSome.toNat + 2 * r.validFrom.isSome.toNat + 4 * r.validUntil.isSome.toNat
    + 8 * r.budget.isSome.toNat + 16 * r.assist.toNat + 32 * r.lastUse.isSome.toNat)

/-- The record form of 40 bytes (R193), absent fields and unused list bytes 0 (R194). -/
def Record.form (r : Record) : List Byte :=
  keyBytes r.key ++ [byte1 r.state.code, byte1 r.holder.code, r.flags]
    ++ [byte1 r.profiles.length] ++ padded 4 (r.profiles.map fun p => byte1 p)
    ++ [byte1 r.personal.length] ++ padded 4 (r.personal.map byte1)
    ++ [byte1 (r.defaultFloor.getD 0)] ++ be 4 (r.validFrom.getD 0) ++ be 4 (r.validUntil.getD 0)
    ++ [byte1 (r.budget.getD 0)] ++ be 4 r.since ++ be 2 r.edition
    ++ (match r.lastUse with
        | some u => byte1 u.floor :: be 5 u.second
        | none => List.replicate 6 0)

/-- Bucket and way in 3 bytes (R193). -/
def slotBytes (b : Bucket) (w : Way) : List Byte := be 2 b ++ [byte1 w]

/-- The slot form of 43 bytes (R193). -/
def slotForm (b : Bucket) (w : Way) (r : Record) : List Byte := slotBytes b w ++ r.form

/-- READ SLOT of a FREE way, 4 bytes (R194). -/
def freeForm (b : Bucket) (w : Way) : List Byte := slotBytes b w ++ [byte1 freeCode]

/-- Bucket, way, edition, record state: the result of PUT CREDENTIAL and SET STATE (R195). -/
def writtenForm (b : Bucket) (w : Way) (r : Record) : List Byte :=
  slotBytes b w ++ be 2 r.edition ++ [byte1 r.state.code]

/-- The result of REPLENISH (R195). -/
def replenishedForm (b : Bucket) (w : Way) (r : Record) : List Byte :=
  writtenForm b w r ++ [yesNo r.budget.isSome, byte1 (r.budget.getD 0)]

/-- The trip report of DROP CREDENTIAL, 6 bytes (R195). -/
def tripReport : Option Trip → List Byte
  | some t => [1, byte1 t.transfer, byte1 t.finalFloor, byte1 t.group] ++ be 2 t.remaining
  | none => List.replicate 6 0

/-- A floor set as a floor list (R192), ascending: R194 states that order for GET PROFILE. For the served set that READ MAP
returns no rule gives an order of the floors; the model lists them ascending there too, DESIGN CHOICE
(notes/assumptions/28.md). -/
def floorListForm (fs : FloorSet) : List Byte := byte1 fs.length :: fs.map byte1

/-- A window in 5 bytes (R193). -/
def Window.form (w : Window) : List Byte := w.days :: (be 2 w.start ++ be 2 w.stop)

/-- The profile form (R193). -/
def Profile.form (n : Fin 256) (p : Profile) : List Byte :=
  byte1 n :: floorListForm p.floors ++ byte1 p.windows.length :: p.windows.flatMap Window.form

/-- A transfer entry in 2 bytes: group 255 for absent, then floor 0 (R195). -/
def transferForm : Option Transfer → List Byte
  | some t => [byte1 t.group, byte1 t.floor]
  | none => [255, 0]

/-- A lobby entry in 4 bytes (R195). -/
def Lobby.form (l : Lobby) : List Byte := byte1 l.origin :: be 2 l.window ++ [byte1 l.policy.code]

/-- A link's four settings in 5 bytes (R195). -/
def LinkSettings.form (x : LinkSettings) : List Byte :=
  [yesNo x.enabled, byte1 x.granularity.code] ++ be 2 x.divisor ++ [byte1 x.limit]

/-- The five settings of SET TIMERS in 10 bytes (R195). -/
def Timers.form (t : Timers) : List Byte :=
  be 2 t.offerTimeout ++ be 2 t.tripLifetime ++ be 2 t.retireGrace ++ be 2 t.sweepInterval ++ be 2 t.nearFull

/-- A pattern in 8 bytes (R195). -/
def Pattern.form (p : Pattern) : List Byte := p.toList.map fun c => byte1 c.code

/-- The watch record's 11 bytes: record present, kind, key, floor, reply code, group, car; absent values are 255 (R195). -/
def watchRecordForm : Option WatchRecord → List Byte
  | none => 0 :: List.replicate 10 255
  | some w =>
    [1, byte1 w.kind.code] ++ keyBytes w.key ++ [byte1 (w.requested.getD 255), byte1 w.reply.code]
      ++ (match w.reply with
          | .accept g car _ _ => [byte1 g, byte1 car]
          | .plain _ => [255, 255])

/-- A drop in the status picture: bits 0..2 drop state, bit 3 answer mode (R195). -/
def Drop.status (d : Drop) : Byte := byte1 (d.state.code + 8 * d.mode.code)

end Sys2Proof.Machine
end

