-- ==== Sys2Proof/Machine/Operands.lean ====
section
/-! DEFINITION. The operand forms: every argument encoding of R192 to R195, read from an argument frame. A reader answers
none where the frame does not fit its form or an enumeration byte has no code. -/

namespace Sys2Proof.Machine

/-! ## Keys and credentials -/

/-- The key at an offset: site code (2), card number (3) (R192). -/
def readKey (args : List Byte) (i : Nat) : Key :=
  { site := field args i 2, card := field args (i + 2) 3 }

/-- Whether a key lies in the ranges of R1. -/
def Key.valid (k : Key) : Bool := decide (k.site ≤ Config.maxSite) && decide (k.card ≤ Config.maxCard)

/-- The key at an offset, refused beyond its ranges (R14, R22). -/
def readValidKey (args : List Byte) (i : Nat) : Option Key :=
  if (readKey args i).valid then some (readKey args i) else none

/-- A record state a command may name: ACTIVE or SUSPENDED (R14, R20, R194). -/
def readLiveState (b : Byte) : Option RecordState :=
  match RecordState.ofCode b.toNat with
  | some .active => some .active
  | some .suspended => some .suspended
  | _ => none

/-- An optional value by its presence bit; its bytes are not read where the bit is clear (R194). -/
def present (flags : Byte) (bit : Nat) (v : Nat) : Option Nat :=
  if flags.getLsbD bit then some v else none

/-- The credential form of 28 bytes, offsets as R193 lays them out, none where R194 refuses the form. -/
def readCredential (args : List Byte) : Option Credential :=
  if args.length = 28 then
    match readLiveState (byteAt args 5), HolderClass.ofCode (numAt args 6) with
    | some st, some holder =>
      let flags := byteAt args 7
      if flags.getLsbD 5 || flags.getLsbD 6 || flags.getLsbD 7 || numAt args 8 == 0 || decide (4 < numAt args 8)
          || decide (4 < numAt args 13) then
        none
      else
        some
          { key := readKey args 0
            state := st
            holder := holder
            profiles := ((args.drop 9).take (numAt args 8)).map fun b => b.toFin
            personal := ((args.drop 14).take (numAt args 13)).map BitVec.toNat
            defaultFloor := present flags 0 (numAt args 18)
            validFrom := present flags 1 (field args 19 4)
            validUntil := present flags 2 (field args 23 4)
            budget := present flags 3 (numAt args 27)
            assist := flags.getLsbD 4 }
    | _, _ => none
  else none

/-- Whether an optional value is absent or passes a test. -/
def optAll (o : Option Nat) (p : Nat → Bool) : Bool :=
  match o with
  | none => true
  | some v => p v

/-- The checks R14 makes on the decoded values. -/
def Credential.valid (c : Credential) : Bool :=
  c.key.valid
    && (c.state == .active || c.state == .suspended)
    && decide (1 ≤ c.profiles.length) && decide (c.profiles.length ≤ 4) && decide c.profiles.Nodup
    && decide (c.personal.length ≤ 4) && decide c.personal.Nodup && c.personal.all (fun f => decide (f < Config.floors))
    && optAll c.defaultFloor (fun f => decide (f < Config.floors))
    && optAll c.validFrom (fun m => decide (m ≤ Config.maxSiteMinute))
    && optAll c.validUntil (fun m => decide (m ≤ Config.maxSiteMinute))
    && optAll c.validFrom (fun a => optAll c.validUntil fun b => decide (a < b))
    && optAll c.budget (fun b => decide (0 < b))

/-! ## Arguments of the store commands (R13 to R24) -/

/-- PUT CREDENTIAL: the credential form (R193, R194), checked whole (R14). -/
def readPut (args : List Byte) : Option StoreCommand :=
  match readCredential args with
  | some c => if c.valid then some (.put c) else none
  | none => none

/-- GET CREDENTIAL: a key (R195). -/
def readGet (args : List Byte) : Option StoreCommand :=
  if args.length = 5 then (readValidKey args 0).map .get else none

/-- DROP CREDENTIAL: a key (R195). -/
def readDrop (args : List Byte) : Option StoreCommand :=
  if args.length = 5 then (readValidKey args 0).map .drop else none

/-- SET STATE: a key and a record state (R195); any state but ACTIVE and SUSPENDED is refused (R20). -/
def readSetState (args : List Byte) : Option StoreCommand :=
  if args.length = 6 then
    match readValidKey args 0, readLiveState (byteAt args 5) with
    | some k, some st => some (.setState k (st == .active))
    | _, _ => none
  else none

/-- REPLENISH: a key, budget present, count (R195); a count of 0 is refused, and the count is not read where it is
unlimited (R21). -/
def readReplenish (args : List Byte) : Option StoreCommand :=
  if args.length = 7 then
    match readValidKey args 0, readYesNo (byteAt args 5) with
    | some k, some false => some (.replenish k none)
    | some k, some true => if numAt args 6 = 0 then none else some (.replenish k (some (numAt args 6)))
    | _, _ => none
  else none

/-- READ SLOT: a bucket 0..4,095 and a way 0..3 (R24, R195). -/
def readReadSlot (args : List Byte) : Option StoreCommand :=
  if args.length = 3 then
    if h : field args 0 2 < 4096 then
      if g : numAt args 2 < 4 then some (.readSlot ⟨field args 0 2, h⟩ ⟨numAt args 2, g⟩) else none
    else none
  else none

/-! ## Lists, sets and identities -/

/-- A floor list: count 0..160, then that many floors; answers the floors and the bytes after them (R192). -/
def readFloorList (l : List Byte) : Option (List Nat × List Byte) :=
  match l with
  | n :: rest =>
    if n.toNat ≤ Config.floors ∧ n.toNat ≤ rest.length then
      some ((rest.take n.toNat).map BitVec.toNat, rest.drop n.toNat)
    else none
  | [] => none

/-- The floor set of a list of floors: each floor once, ascending (R51, R60, R78). -/
def floorSet (l : List Nat) : FloorSet := (List.range Config.floors).filter fun f => l.contains f

/-- A floor list that is the whole frame and holds no floor above 159, as a floor set. -/
def readFloorSet (l : List Byte) : Option FloorSet :=
  match readFloorList l with
  | some (floors, []) => if floors.all (fun f => decide (f < Config.floors)) then some (floorSet floors) else none
  | _ => none

/-- That many numbers of 2 bytes, and nothing after them. -/
def readNumbers : Nat → List Byte → Option (List Nat)
  | 0, [] => some []
  | n + 1, a :: b :: rest => (readNumbers n rest).map fun l => num [a, b] :: l
  | _, _ => none

/-- That many windows of 5 bytes, and nothing after them (R193). -/
def readWindows : Nat → List Byte → Option (List Window)
  | 0, [] => some []
  | n + 1, d :: s1 :: s0 :: e1 :: e0 :: rest =>
    (readWindows n rest).map fun l => { days := d, start := num [s1, s0], stop := num [e1, e0] } :: l
  | _, _ => none

/-- The window bounds of R51. -/
def Window.valid (w : Window) : Bool :=
  decide (w.start ≤ 1439) && decide (1 ≤ w.stop) && decide (w.stop ≤ 2880) && decide (w.start < w.stop)

/-- The profile form of PUT PROFILE: number, floor list, window count 0..6, windows (R193, R194), with the checks of R51. -/
def readProfile (args : List Byte) : Option (Fin 256 × Profile) :=
  match args with
  | [] => none
  | number :: rest =>
    match readFloorList rest with
    | some (floors, count :: rest) =>
      if count.toNat ≤ 6 then
        match readWindows count.toNat rest with
        | some windows =>
          if floors.all (fun f => decide (f < Config.floors)) && windows.all Window.valid then
            some (number.toFin, { floors := floorSet floors, windows := windows })
          else none
        | none => none
      else none
    | _ => none

/-- A number as an identity below `n`; none beyond its range (R192). -/
def readId (n : Nat) (b : Byte) : Option (Fin n) :=
  if h : b.toNat < n then some ⟨b.toNat, h⟩ else none

/-- An optional group (R192): 255 is absent, a number above 11 is refused. -/
def readOptGroup (b : Byte) : Option (Option (Fin 12)) :=
  if b = 255 then some none else (readId 12 b).map some

/-- A zone or NONE in SET FLOOR (R59, R192): 255 is NONE, a number above 7 is refused. -/
def readOptZone (b : Byte) : Option (Option (Fin 8)) :=
  if b = 255 then some none else (readId 8 b).map some

/-- A drop address 1..28 as a drop index. -/
def readAddress (b : Byte) : Option (Fin 28) :=
  if h : 1 ≤ b.toNat ∧ b.toNat ≤ 28 then some ⟨b.toNat - 1, by omega⟩ else none

/-- A link number and a drop address (R111, R115, R125). -/
def readLinkDrop (l d : Byte) : Option (Fin 4 × Fin 28) :=
  match readId 4 l, readAddress d with
  | some l, some d => some (l, d)
  | _, _ => none

/-- Eight turn classes (R34, R195). -/
def readPattern (l : List Byte) : Option Pattern :=
  match l.map fun b => TurnClass.ofCode b.toNat with
  | [some a, some b, some c, some d, some e, some f, some g, some h] => some #v[a, b, c, d, e, f, g, h]
  | _ => none

/-- How many positions of a pattern carry a class. -/
def Pattern.count (p : Pattern) (c : TurnClass) : Nat := p.toList.countP (· == c)

/-- A valid pattern: at least 2 LOOKUP, 1 UPKEEP and 1 SWEEP position (R34). -/
def Pattern.valid (p : Pattern) : Bool :=
  decide (2 ≤ Pattern.count p .lookup) && decide (1 ≤ Pattern.count p .upkeep) && decide (1 ≤ Pattern.count p .sweep)

/-- A setting clamped to the nearer bound (R79, R105). -/
def clamp (lo hi v : Nat) : Nat := max lo (min hi v)

end Sys2Proof.Machine
end

