-- ==== Sys2Proof/Machine/Table.lean ====
section
/-! DEFINITION. The one sparse table of the model, keyed by number: the record slots of the Credential Store. Canonical form:
keys strictly rising; an unlisted key holds nothing (a FREE slot), so equal stores are equal lists. -/

namespace Sys2Proof.Machine

/-- What stands under a key; none where the table lists nothing. -/
def Table.get {α : Type} : List (Nat × α) → Nat → Option α
  | [], _ => none
  | (k, v) :: t, n => if n = k then some v else Table.get t n

/-- Writes a value under a key. -/
def Table.put {α : Type} : List (Nat × α) → Nat → α → List (Nat × α)
  | [], n, x => [(n, x)]
  | (k, v) :: t, n, x =>
    if n < k then (n, x) :: (k, v) :: t
    else if n = k then (n, x) :: t
    else (k, v) :: Table.put t n x

/-- Empties a key. -/
def Table.erase {α : Type} : List (Nat × α) → Nat → List (Nat × α)
  | [], _ => []
  | (k, v) :: t, n => if n = k then t else (k, v) :: Table.erase t n

/-- The canonical form: keys strictly rising and below a bound. -/
abbrev Table.wf {α : Type} (bound : Nat) (t : List (Nat × α)) : Prop :=
  (t.map Prod.fst).Pairwise (· < ·) ∧ ∀ k ∈ t.map Prod.fst, k < bound

end Sys2Proof.Machine
end

