-- ==== Sys2Proof/Machine/Ops.lean ====
section
/-! DEFINITION. The named operations over the state that the meanings share: slots of the store, bank queues, drops and
transactions, pending entries, lobby states and notices, and a maintenance command's taking and end. -/

namespace Sys2Proof.Machine

/-! ## The Credential Store (R2, R3, R9, R12) -/

/-- The home bucket of a key (R2). -/
def Key.home (k : Key) : Bucket := ⟨(k.card + 331 * k.site) % 4096, Nat.mod_lt _ (by decide)⟩

/-- The alternate bucket of a key (R2). -/
def Key.alternate (k : Key) : Bucket := ⟨(k.home.val + 2049) % 4096, Nat.mod_lt _ (by decide)⟩

/-- The bank a bucket lies in (R2). -/
def bankOf (b : Bucket) : Fin 4 := ⟨b.val % 4, Nat.mod_lt _ (by decide)⟩

/-- The number of a record slot. -/
def slotNumber (b : Bucket) (w : Way) : Nat := b.val * 4 + w.val

/-- What a way holds; none is FREE (R1). -/
def Store.slot (st : Store) (b : Bucket) (w : Way) : Option Record := Table.get st.slots (slotNumber b w)

/-- The four ways of a bucket, ascending (R3). -/
def ways : List Way := [0, 1, 2, 3]

/-- Searches the four ways of a bucket for a key (R3). -/
def Store.search (st : Store) (b : Bucket) (k : Key) : Option (Way × Record) :=
  ways.findSome? fun w =>
    match st.slot b w with
    | some r => if r.key = k then some (w, r) else none
    | none => none

/-- The lowest-numbered FREE way of a bucket (R3). -/
def Store.freeWay (st : Store) (b : Bucket) : Option Way := ways.find? fun w => (st.slot b w).isNone

/-- Writes a record into a way that holds one. -/
def Store.write (st : Store) (b : Bucket) (w : Way) (r : Record) : Store :=
  { st with slots := Table.put st.slots (slotNumber b w) r }

/-- Places a record in a FREE way: occupancy grows by 1 (R9). -/
def Store.place (st : Store) (b : Bucket) (w : Way) (r : Record) : Store :=
  { st.write b w r with occupancy := st.occupancy + 1 }

/-- Frees a way: occupancy falls by 1 (R9). -/
def Store.release (st : Store) (b : Bucket) (w : Way) : Store :=
  { st with slots := Table.erase st.slots (slotNumber b w), occupancy := st.occupancy - 1 }

/-- The edition counter's next value, from 65,535 to 0 (R12). -/
def nextEdition (e : Nat) : Nat := (e + 1) % 65536

/-- The lapse condition at a site minute (R6). -/
def Record.lapses (r : Record) (now : Nat) : Bool :=
  match r.validUntil with
  | some u => decide (u ≤ now)
  | none => false

/-- A record written LAPSED, state since its valid until (R7). -/
def Record.lapse (r : Record) : Record := { r with state := .lapsed, since := r.validUntil.getD r.since }

/-! ## Clock readings (R45, R48) -/

/-- Site minute (R45). -/
def Clock.siteMinute (c : Clock) : Nat := c.day * 1440 + c.minute

/-- Site second (R45). -/
def Clock.siteSecond (c : Clock) : Nat := c.siteMinute * 60 + c.second

/-- The site minute now. -/
def State.now (s : State) : Nat := s.clock.siteMinute

/-- The site second now. -/
def State.nowSecond (s : State) : Nat := s.clock.siteSecond

/-! ## Bank queues (R27, R28) -/

/-- A LOOKUP request joins the tail of its bucket's bank (R27). -/
def State.queueLookup (s : State) (r : LookupRequest) : State :=
  { s with
    banks := s.banks.set (bankOf r.bucket)
      { s.banks[bankOf r.bucket] with lookup := s.banks[bankOf r.bucket].lookup ++ [r] } }

/-- An UPKEEP request joins its bucket's bank (R28). -/
def State.queueUpkeep (s : State) (r : UpkeepRequest) : State :=
  { s with
    banks := s.banks.set (bankOf r.bucket)
      { s.banks[bankOf r.bucket] with upkeep := s.banks[bankOf r.bucket].upkeep ++ [r] } }

/-- A SWEEP request joins its bucket's bank (R28). -/
def State.queueSweep (s : State) (b : Bucket) : State :=
  { s with banks := s.banks.set (bankOf b) { s.banks[bankOf b] with sweep := s.banks[bankOf b].sweep ++ [b] } }

/-! ## Drops and transactions (R110, R117, R120, R122) -/

/-- The record of a drop. -/
def State.drop (s : State) (l : Fin 4) (d : Fin 28) : Drop := s.links[l].drops[d]

/-- Writes the record of a drop. -/
def State.setDrop (s : State) (l : Fin 4) (d : Fin 28) (x : Drop) : State :=
  { s with links := s.links.set l { s.links[l] with drops := s.links[l].drops.set d x } }

/-- A drop is enabled exactly when it is not DISABLED (R110). -/
def Drop.enabled (d : Drop) : Bool := d.state != .disabled

/-- Whether a drop serves its lobby and has its requests taken (R118, R123). -/
def Drop.answering (d : Drop) : Bool := d.state == .online || d.state == .degraded

/-- A drop's counts zeroed (R106, R111 to R113). -/
def Drop.zeroed (d : Drop) : Drop := { d with good := 0, failed := 0, blockPolls := 0, blockFailed := 0 }

/-- A drop's transaction closed without delivery: its slot is emptied and its side answer discarded (R122). -/
def Drop.closed (d : Drop) : Drop := { d with transaction := none, side := none }

/-- A transaction's reply slot filled. -/
def Drop.withReply (d : Drop) (r : Reply) : Drop :=
  { d with transaction := d.transaction.map fun t => { t with reply := some r } }

/-- Posts a reply of a pending entry: into the slot of the drop's open transaction where that holds the entry's number,
else it is discarded (R120). -/
def State.post (s : State) (e : Fin 64) (en : Entry) (r : Reply) : State :=
  match (s.drop en.link en.drop).transaction with
  | some t =>
    if t.entry = some e then s.setDrop en.link en.drop ((s.drop en.link en.drop).withReply r) else s
  | none => s

/-! ## Pending entries (R73 to R75) -/

/-- Writes a pending entry. -/
def State.setEntry (s : State) (e : Fin 64) (x : Option Entry) : State := { s with entries := s.entries.set e x }

/-- The lowest-numbered free entry (R75). -/
def State.freeEntry (s : State) : Option (Fin 64) := (List.finRange 64).find? fun e => s.entries[e].isNone

/-- Number of entries in use (R175). -/
def State.entriesInUse (s : State) : Nat := s.entries.toList.countP Option.isSome

/-- The tag an entry holds: every OFFERED entry holds one (R138). -/
def Entry.tag? (en : Entry) : Option Byte :=
  match en.state with
  | .offered t _ _ => some t
  | _ => none

/-- Whether an OFFERED entry holds a tag (R138). -/
def State.tagHeld (s : State) (t : Byte) : Bool := s.entries.toList.any fun e => (e.bind Entry.tag?) == some t

/-- Answers an entry's request and frees the entry. -/
def State.answerAndFree (s : State) (e : Fin 64) (en : Entry) (r : Reply) : State := (s.post e en r).setEntry e none

/-! ## The transmit queue and lobby notices (R133, R137) -/

/-- Whether a frame is a LOBBY NOTICE. -/
def TxFrame.isNotice : TxFrame → Bool
  | .notice _ _ _ => true
  | _ => false

/-- Whether a frame is the OFFER of an entry. -/
def TxFrame.ownedBy (e : Fin 64) : TxFrame → Bool
  | .offer (some o) _ => o == e
  | _ => false

/-- A composed notice joins the queue, or sets re-announcement owed while 32 notices wait (R133). -/
def DispatchLink.queueNotice (d : DispatchLink) (f : TxFrame) : DispatchLink :=
  if Config.noticeCapacity ≤ d.queue.countP TxFrame.isNotice then { d with owed := true }
  else { d with queue := d.queue ++ [f] }

/-- A LINK CHECK joins the queue unless another waits (R133). -/
def DispatchLink.queueLinkCheck (d : DispatchLink) : DispatchLink :=
  if d.queue.contains .linkCheck then d else { d with queue := d.queue ++ [.linkCheck] }

/-- The notices of a re-announcement: every lobby that is not VACANT, ascending (R137). -/
def State.announcements (s : State) : List TxFrame :=
  (List.finRange 16).filterMap fun n =>
    if s.service[n] = .vacant then none else some (.notice n s.service[n] s.lobbies[n].policy)

/-- A re-announcement (R137): waiting notices are removed, re-announcement owed is cleared, the present states join the
tail. -/
def State.reannounce (s : State) : State :=
  { s with
    dispatch := { s.dispatch with
      queue := s.dispatch.queue.filter (fun f => !f.isNotice) ++ s.announcements, owed := false } }

/-! ## Lobby service states (R123, R124) -/

/-- The 112 drop records. -/
def State.allDrops (s : State) : List Drop := s.links.toList.flatMap fun l => l.drops.toList

/-- The service state the drop records give a lobby (R123). -/
def State.serviceOf (s : State) (n : Fin 16) : Service :=
  if s.allDrops.any fun d => d.lobby == n && d.answering then .served
  else if s.allDrops.any fun d => d.lobby == n && d.enabled then .unserved
  else .vacant

/-- Recomputes one lobby; entering or leaving SERVED raises LOBBY_CHANGE and composes a notice (R123, R124). -/
def State.recomputeLobby (s : State) (n : Fin 16) : State :=
  if s.serviceOf n = s.service[n] then s
  else if s.serviceOf n = .served ∨ s.service[n] = .served then
    { s with
      service := s.service.set n (s.serviceOf n)
      attention := s.attention.raise .lobbyChange
      dispatch := s.dispatch.queueNotice (.notice n (s.serviceOf n) s.lobbies[n].policy) }
  else { s with service := s.service.set n (s.serviceOf n) }

/-- Recomputes the lobbies, ascending: a lobby whose state stays is left as it is (R124). -/
def State.recompute (s : State) : State := (List.finRange 16).foldl State.recomputeLobby s

/-! ## Counts and trips -/

/-- A status count plus 1, saturating (00, R145). -/
def saturate (n : Nat) : Nat := min Config.saturation (n + 1)

/-- The open trip of a key (R148). -/
def State.tripOf (s : State) (k : Key) : Option Trip := s.trips.find? fun t => t.key == k

/-- Removes the open trip of a key (R149, R150). -/
def State.removeTrip (s : State) (k : Key) : State := { s with trips := s.trips.filter fun t => t.key != k }

/-! ## The life of a maintenance command (R170 to R177) -/

/-- Whether the port takes no transaction: the part is in reset, or chip select fell before the last reset had ended, so that
the transaction is abandoned whole and no outcome is written (R181). -/
def State.portShut (s : State) (fell : Fall) : Bool := s.inReset || fell == .beforeReset

/-- The engine state as it stood at the fall of chip select: WORKING where the engine was still WORKING then and is DONE
now (R174). -/
def State.engineAtFall (s : State) (fell : Fall) : EngineState :=
  if fell = .working ∧ s.port.engine = .done then .working else s.port.engine

/-- The status byte as it stood at the fall of chip select (R174, R191). -/
def State.statusByte (s : State) (fell : Fall) : Byte :=
  byte1 ((s.engineAtFall fell).code + 4 * s.port.outcome.code + 16 * s.port.indication.code)

/-- The part clocks out the status byte, what follows it, and fill bytes, `n` bytes in all (R170, R191). -/
def State.clockOut (s : State) (fell : Fall) (n : Nat) (after : List Byte) : State :=
  { s with port := { s.port with out := padded n (s.statusByte fell :: after) } }

/-- Taking a command: the outcome is TAKEN, the reset indication and the buffer are cleared, and an engine in DONE leaves it,
which clears COMMAND_DONE (R172, R174, R177). -/
def State.take (s : State) : State :=
  { s with
    port := { s.port with engine := .idle, outcome := .taken, indication := .none, buffer := none }
    attention := s.attention.clear Source.commandDone.mask }

/-- A command's end: the engine enters DONE, the result is buffered and COMMAND_DONE raised (R173). -/
def State.finish (s : State) (code : ResultCode) (bytes : List Byte) : State :=
  { s with
    port := { s.port with engine := .done, buffer := some { code := code, bytes := bytes } }
    attention := s.attention.raise .commandDone }

/-- A good COMMAND frame at the rise of chip select (R171, R172): not taken in reset or from before it (R181), discarded with
REFUSED_BUSY in WORKING, otherwise taken and carried to `body`. -/
def State.command (s : State) (fell : Fall) (args : List Byte) (body : State → State) :
    Host.Outcome State Fault Refusal :=
  .next <|
    if s.portShut fell then s
    else
      let s := s.clockOut fell (args.length + 4) []
      if s.port.engine = .working then { s with port := { s.port with outcome := .refusedBusy } }
      else body s.take

/-- A command's end with a result that carries no bytes. -/
def State.finishPlain (s : State) (code : ResultCode) : State := s.finish code []

/-- A command without arguments: a frame that carries some ends BAD_ARG (R172). -/
def State.plainCommand (s : State) (fell : Fall) (args : List Byte) (body : State → State) :
    Host.Outcome State Fault Refusal :=
  s.command fell args fun s => if args = [] then body s else s.finishPlain .badArg

/-- The bucket of a store command's first phase (R15, R22, R24). -/
def StoreCommand.firstBucket : StoreCommand → Bucket
  | .put c => c.key.alternate
  | .get k => k.home
  | .drop k => k.home
  | .setState k _ => k.home
  | .replenish k _ => k.home
  | .readSlot b _ => b

/-- A store command that passes its check makes the engine WORKING and queues its first phase (R13, R173). Where it is taken
in DONE, the engine leaves DONE without re-entering it: `cleared` is the enabled COMMAND_DONE that the taking cleared (R180). -/
def State.startWork (s : State) (cleared : BitVec 8) (c : StoreCommand) : State :=
  { s with
    port := { s.port with engine := .working }
    attention := s.attention.pulse cleared }.queueUpkeep { bucket := c.firstBucket, command := c, phase := .first }

/-- A store command: checked whole when it is taken (R13). -/
def State.storeCommand (s : State) (fell : Fall) (args : List Byte) (c : Option StoreCommand) :
    Host.Outcome State Fault Refusal :=
  s.command fell args fun s' =>
    match c with
    | none => s'.finishPlain .badArg
    | some c => s'.startWork (s.attention.live &&& Source.commandDone.mask) c

end Sys2Proof.Machine
end

