-- ==== Sys2Proof/Machine/Store.lean ====
section
/-! DEFINITION. Chapter 1: the six store commands and what each of their phases does in its UPKEEP turn. -/

namespace Sys2Proof.Machine

/-! ## The commands at their taking (R13) -/

/-- PUT CREDENTIAL (R14). -/
def execPutCredential (fell : Fall) (args : List Byte) (s : State) : Host.Outcome State Fault Refusal :=
  s.storeCommand fell args (readPut args)

/-- GET CREDENTIAL (R23). -/
def execGetCredential (fell : Fall) (args : List Byte) (s : State) : Host.Outcome State Fault Refusal :=
  s.storeCommand fell args (readGet args)

/-- DROP CREDENTIAL (R19). -/
def execDropCredential (fell : Fall) (args : List Byte) (s : State) : Host.Outcome State Fault Refusal :=
  s.storeCommand fell args (readDrop args)

/-- SET STATE (R20). -/
def execSetState (fell : Fall) (args : List Byte) (s : State) : Host.Outcome State Fault Refusal :=
  s.storeCommand fell args (readSetState args)

/-- REPLENISH (R21). -/
def execReplenish (fell : Fall) (args : List Byte) (s : State) : Host.Outcome State Fault Refusal :=
  s.storeCommand fell args (readReplenish args)

/-- READ SLOT (R24). -/
def execReadSlot (fell : Fall) (args : List Byte) (s : State) : Host.Outcome State Fault Refusal :=
  s.storeCommand fell args (readReadSlot args)

/-! ## PUT CREDENTIAL's writes (R18) -/

/-- The record a PUT stores, under the edition it takes and the last use it keeps (R18): LAPSED where the lapse condition
holds at the turn. -/
def Credential.stored (c : Credential) (now edition : Nat) (lastUse : Option LastUse) : Record :=
  let r : Record :=
    { key := c.key, state := c.state, since := now, holder := c.holder, profiles := c.profiles, personal := c.personal,
      defaultFloor := c.defaultFloor, validFrom := c.validFrom, validUntil := c.validUntil, budget := c.budget,
      assist := c.assist, lastUse := lastUse, edition := edition }
  if r.lapses now then r.lapse else r

/-- The edition counter advances for a maintenance write (R12). -/
def Store.takeEdition (st : Store) : Store := { st with edition := nextEdition st.edition }

/-- A replacement in place: the last use is kept, the command ends OK_REPLACED (R15, R16, R18). -/
def State.putReplace (s : State) (c : Credential) (b : Bucket) (w : Way) (old : Record) : State :=
  let r := c.stored s.now (nextEdition s.store.edition) old.lastUse
  { s with store := s.store.takeEdition.write b w r }.finish .okReplaced (writtenForm b w r)

/-- A placement leaving occupancy at or above a non-zero near-full mark raises NEAR_FULL (R10). -/
def State.checkNearFull (s : State) : State :=
  if s.settings.timers.nearFull ≠ 0 ∧ s.settings.timers.nearFull ≤ s.store.occupancy then s.raise .nearFull else s

/-- A placement in a FREE way: the command ends OK_NEW (R16, R17, R18). -/
def State.putPlace (s : State) (c : Credential) (b : Bucket) (w : Way) : State :=
  let r := c.stored s.now (nextEdition s.store.edition) none
  { s with store := s.store.takeEdition.place b w r }.checkNearFull.finish .okNew (writtenForm b w r)

/-- The next phase of a store command is queued (R13). -/
def State.nextPhase (s : State) (command : StoreCommand) (b : Bucket) (phase : Phase) : State :=
  s.queueUpkeep { bucket := b, command := command, phase := phase }

/-- The phases of PUT CREDENTIAL (R15, R16, R17). -/
def State.putPhase (s : State) (c : Credential) (b : Bucket) (phase : Phase) : State :=
  match phase with
  | .first =>
    match s.store.search b c.key with
    | some (w, r) => s.putReplace c b w r
    | none => s.nextPhase (.put c) c.key.home .second
  | .second =>
    match s.store.search b c.key with
    | some (w, r) => s.putReplace c b w r
    | none =>
      match s.store.freeWay b with
      | some w => s.putPlace c b w
      | none => s.nextPhase (.put c) c.key.alternate .third
  | .third =>
    match s.store.freeWay b with
    | some w => s.putPlace c b w
    | none => s.finishPlain .tableFull

/-! ## The search of GET, DROP, SET STATE and REPLENISH (R22) -/

/-- One phase of the search: the command acts where the key is found; else the alternate bucket's phase is queued, or the
command ends as `absent` gives (R22). -/
def State.searchPhase (s : State) (command : StoreCommand) (k : Key) (b : Bucket) (phase : Phase)
    (act : State → Way → Record → State) (absent : State → State) : State :=
  match s.store.search b k with
  | some (w, r) => act s w r
  | none => if phase = .first then s.nextPhase command k.alternate .second else absent s

/-- GET CREDENTIAL at the finding turn (R23). -/
def State.getFound (b : Bucket) (s : State) (w : Way) (r : Record) : State := s.finish .ok (slotForm b w r)

/-- DROP CREDENTIAL at the finding turn: the way is freed and the key's open trip removed (R19, R150). -/
def State.dropFound (k : Key) (b : Bucket) (s : State) (w : Way) (_ : Record) : State :=
  ({ s with store := s.store.release b w }.removeTrip k).finish .ok (slotBytes b w ++ tripReport (s.tripOf k))

/-- DROP CREDENTIAL where neither turn finds the key: the open trip is removed (R19, R150). -/
def State.dropAbsent (k : Key) (s : State) : State := (s.removeTrip k).finish .notFound (tripReport (s.tripOf k))

/-- The record SET STATE writes, before its edition; none where nothing is written (R20). -/
def Record.setStateWrite (r : Record) (active : Bool) (now : Nat) : Option Record :=
  match r.state, active with
  | .active, true => if r.lapses now then some r.lapse else none
  | .suspended, false => if r.lapses now then some r.lapse else none
  | .active, false => some (if r.lapses now then r.lapse else { r with state := .suspended, since := now })
  | .suspended, true => some (if r.lapses now then r.lapse else { r with state := .active, since := now })
  | .spent, _ => none
  | .lapsed, _ => none

/-- SET STATE at the finding turn (R20). -/
def State.setStateFound (active : Bool) (b : Bucket) (s : State) (w : Way) (r : Record) : State :=
  if r.state = .spent ∨ r.state = .lapsed then s.finishPlain .wrongState
  else
    match r.setStateWrite active s.now with
    | none => s.finish .ok (writtenForm b w r)
    | some r1 =>
      let r2 := { r1 with edition := nextEdition s.store.edition }
      { s with store := s.store.takeEdition.write b w r2 }.finish
        (if r.lapses s.now then .okLapsed else .ok) (writtenForm b w r2)

/-- The record REPLENISH writes, before its edition; none for a LAPSED record (R21). -/
def Record.replenishWrite (r : Record) (count : Option Nat) (now : Nat) : Option Record :=
  let r1 := { r with budget := count }
  match r.state with
  | .lapsed => none
  | .spent => some (if r.lapses now then r1.lapse else { r1 with state := .active, since := now })
  | .active => some (if r.lapses now then r1.lapse else r1)
  | .suspended => some (if r.lapses now then r1.lapse else r1)

/-- REPLENISH at the finding turn (R21). -/
def State.replenishFound (count : Option Nat) (b : Bucket) (s : State) (w : Way) (r : Record) : State :=
  match r.replenishWrite count s.now with
  | none => s.finishPlain .wrongState
  | some r1 =>
    let r2 := { r1 with edition := nextEdition s.store.edition }
    { s with store := s.store.takeEdition.write b w r2 }.finish
      (if r.lapses s.now then .okLapsed else .ok) (replenishedForm b w r2)

/-- NOT_FOUND of GET, SET STATE and REPLENISH (R22). -/
def State.notFound (s : State) : State := s.finishPlain .notFound

/-- READ SLOT's one turn (R24). -/
def State.readSlotTurn (s : State) (b : Bucket) (w : Way) : State :=
  s.finish .ok
    (match s.store.slot b w with
     | some r => slotForm b w r
     | none => freeForm b w)

/-- The turn of an UPKEEP request (R13 to R24). -/
def State.upkeepTurn (s : State) (q : UpkeepRequest) : State :=
  match q.command with
  | .put c => s.putPhase c q.bucket q.phase
  | .get k => s.searchPhase q.command k q.bucket q.phase (State.getFound q.bucket) State.notFound
  | .drop k => s.searchPhase q.command k q.bucket q.phase (State.dropFound k q.bucket) (State.dropAbsent k)
  | .setState k active => s.searchPhase q.command k q.bucket q.phase (State.setStateFound active q.bucket) State.notFound
  | .replenish k count =>
    s.searchPhase q.command k q.bucket q.phase (State.replenishFound count q.bucket) State.notFound
  | .readSlot _ w => s.readSlotTurn q.bucket w

end Sys2Proof.Machine
end

