-- ==== Sys2Proof/Machine/Clock.lean ====
section
/-! DEFINITION. Chapter 3: the Site Clock, the Holiday List, the access profiles and the effective floor set; with them the
ticks, which also count the open trips down (R40, R151). -/

namespace Sys2Proof.Machine

/-! ## Ticks -/

/-- The clock's last second (R42). -/
def Clock.atEnd (c : Clock) : Bool := c.day == 65535 && c.minute == 1439 && c.second == 59

/-- One second is added, carries together (R41). -/
def Clock.advance (c : Clock) : Clock :=
  if c.second = 59 then
    if c.minute = 1439 then
      { c with second := 0, minute := 0, day := c.day + 1, weekday := if c.weekday = 6 then 0 else c.weekday + 1 }
    else { c with second := 0, minute := c.minute + 1 }
  else { c with second := c.second + 1 }

/-- A tick at the clock: a RUNNING clock advances, or at its last second becomes ENDED and raises CLOCK_END (R41, R42). -/
def State.tickClock (s : State) : State :=
  if s.clock.state = .running then
    if s.clock.atEnd then { s with clock := { s.clock with state := .ended } }.raise .clockEnd
    else { s with clock := s.clock.advance }
  else s

/-- A trip at a counted tick: its remaining time falls by 1, and a trip whose remaining time was 1 is removed (R151). -/
def Trip.count (t : Trip) : Option Trip := if t.remaining = 1 then none else some { t with remaining := t.remaining - 1 }

/-- A tick at the Trip Table: frozen while EMG is asserted (R151, R152). -/
def State.tickTrips (s : State) : State :=
  if s.emg then s else { s with trips := s.trips.filterMap Trip.count }

/-- A tick of the selected source reaches the clock and, in every clock state, the Trip Table (R40). -/
def State.tick (s : State) : State := s.tickClock.tickTrips

/-- Whether a tick of the selected source may fall now: an edge of TICK at any time, an internal tick only where the divider
has completed one second since it started (R40, R43, R44). -/
def State.tickDue (s : State) : Bool := s.clock.source == .external || decide (Config.second ≤ s.clock.divider)

/-- An internal tick restarts the divider; an external tick leaves it (R40). -/
def State.restartDivider (s : State) : State :=
  if s.clock.source = .internal then { s with clock := { s.clock with divider := 0 } } else s

/-- TICK_EDGE (R40): a tick while the source is EXTERNAL; no event in reset (R181). -/
def execTickEdge (s : State) : Host.Outcome State Fault Refusal :=
  .next (if s.inReset ∨ s.clock.source = .internal then s else s.tick)

/-- INTERNAL_TICK (R40): a tick while the source is INTERNAL and the divider has completed one second; the divider starts again
from zero. A divider that SET CLOCK or SET TICK SOURCE has restarted since gives no tick (R43, R44). -/
def execInternalTick (s : State) : Host.Outcome State Fault Refusal :=
  .next (if s.inReset ∨ s.clock.source = .external ∨ !s.tickDue then s else s.restartDivider.tick)

/-- CLOCK_END (R42): a tick of the selected source taken in RUNNING at the clock's last second. -/
def execClockEnd (s : State) : Host.Outcome State Fault Refusal :=
  .next (if ¬ s.inReset ∧ s.tickDue ∧ s.clock.state = .running ∧ s.clock.atEnd then s.restartDivider.tick else s)

/-- TRIP_EXPIRY (R151): a tick of the selected source, taken while EMG is released, at which a trip's remaining time is 1. -/
def execTripExpiry (s : State) : Host.Outcome State Fault Refusal :=
  .next
    (if ¬ s.inReset ∧ s.tickDue ∧ ¬ s.emg ∧ s.trips.any (fun t => t.remaining == 1) then s.restartDivider.tick else s)

/-! ## Clock commands -/

/-- SET CLOCK (R43): day (2), weekday (1), minute of day (2), second (1). -/
def execSetClock (fell : Fall) (args : List Byte) (s : State) : Host.Outcome State Fault Refusal :=
  s.command fell args fun s =>
    if args.length = 6 ∧ numAt args 2 ≤ 6 ∧ field args 3 2 ≤ 1439 ∧ numAt args 5 ≤ 59 then
      { s with
        clock := { s.clock with
          state := .running, day := field args 0 2, weekday := numAt args 2, minute := field args 3 2,
          second := numAt args 5, divider := 0 } }.finishPlain .ok
    else s.finishPlain .badArg

/-- SET TICK SOURCE (R44): a change to INTERNAL restarts the divider; naming the source already selected changes nothing. -/
def execSetTickSource (fell : Fall) (args : List Byte) (s : State) : Host.Outcome State Fault Refusal :=
  s.command fell args fun s =>
    match args with
    | [b] =>
      match TickSource.ofCode b.toNat with
      | some .internal =>
        if s.clock.source = .internal then s.finishPlain .ok
        else { s with clock := { s.clock with source := .internal, divider := 0 } }.finishPlain .ok
      | some .external => { s with clock := { s.clock with source := .external } }.finishPlain .ok
      | none => s.finishPlain .badArg
    | _ => s.finishPlain .badArg

/-! ## The Holiday List -/

/-- A number placed into an ascending list, merged with its equal (R47). -/
def insertAscending (n : Nat) : List Nat → List Nat
  | [] => [n]
  | a :: l => if n < a then n :: a :: l else if n = a then a :: l else a :: insertAscending n l

/-- Day numbers in ascending order, repeats merged (R47). -/
def sortMerged (l : List Nat) : List Nat := l.foldr insertAscending []

/-- PUT HOLIDAYS (R47): count 0..64, then the day numbers; at most 32 distinct ones. -/
def execPutHolidays (fell : Fall) (args : List Byte) (s : State) : Host.Outcome State Fault Refusal :=
  s.command fell args fun s =>
    match args with
    | [] => s.finishPlain .badArg
    | n :: rest =>
      match readNumbers n.toNat rest with
      | none => s.finishPlain .badArg
      | some days =>
        if n.toNat ≤ 64 ∧ (sortMerged days).length ≤ 32 then
          { s with holidays := sortMerged days }.finish .ok [byte1 (sortMerged days).length]
        else s.finishPlain .badArg

/-! ## Profiles -/

/-- PUT PROFILE (R51): the whole profile is replaced. -/
def execPutProfile (fell : Fall) (args : List Byte) (s : State) : Host.Outcome State Fault Refusal :=
  s.command fell args fun s =>
    match readProfile args with
    | some (n, p) => { s with profiles := s.profiles.set n p }.finishPlain .ok
    | none => s.finishPlain .badArg

/-- GET PROFILE (R52). -/
def execGetProfile (fell : Fall) (args : List Byte) (s : State) : Host.Outcome State Fault Refusal :=
  s.command fell args fun s =>
    match args with
    | [b] => s.finish .ok (s.profiles[b.toFin].form b.toFin)
    | _ => s.finishPlain .badArg

/-! ## Day classes and the effective floor set -/

/-- The bit of the class Holiday in a day set; the weekdays are their own numbers (R184). -/
def holidayClass : Nat := 7

/-- Today's class (R48). -/
def State.today (s : State) : Nat := if s.holidays.contains s.clock.day then holidayClass else s.clock.weekday

/-- Yesterday's class (R48). -/
def State.yesterday (s : State) : Nat :=
  if s.clock.day ≠ 0 ∧ s.holidays.contains (s.clock.day - 1) then holidayClass else (s.clock.weekday + 6) % 7

/-- Whether a window is open at the present reading (R53). -/
def Window.isOpen (w : Window) (today yesterday minute : Nat) : Bool :=
  (w.days.getLsbD today && decide (w.start ≤ minute) && decide (minute < min w.stop 1440))
    || (decide (1440 < w.stop) && w.days.getLsbD yesterday && decide (minute + 1440 < w.stop))

/-- Whether a profile is open at the present reading (R54). -/
def State.profileOpen (s : State) (p : Profile) : Bool :=
  p.windows.any fun w => w.isOpen s.today s.yesterday s.clock.minute

/-- Whether a record is granted a floor now: a personal floor, or a floor of an open profile of its list (R55). -/
def State.granted (s : State) (r : Record) (f : Nat) : Bool :=
  r.personal.contains f || r.profiles.any fun p => s.profileOpen s.profiles[p] && s.profiles[p].floors.contains f

/-- The effective floor set of a record at the present reading (R55). -/
def State.effectiveFloors (s : State) (r : Record) : FloorSet := (List.range Config.floors).filter (s.granted r)

end Sys2Proof.Machine
end

