-- ==== Sys2Proof/Machine/Floors.lean ====
section
/-! DEFINITION. Chapter 4: the floor maps, their editing and commit, routes, and the Lobby Table. -/

namespace Sys2Proof.Machine

/-- The zone of a floor; none for zone NONE and beyond the map's range (R57). -/
def FloorMap.zoneOf (m : FloorMap) (f : Nat) : Option (Fin 8) := if h : f < 160 then m.zones[f] else none

/-- Whether a group stops at a floor (R57). -/
def FloorMap.serves (m : FloorMap) (g : Fin 12) (f : Nat) : Bool := m.served[g].contains f

/-- The index of transfer entry (a, b) (R63). -/
def transferIndex (a b : Fin 8) : Fin 64 := ⟨a.val * 8 + b.val, by omega⟩

/-- The transfer entry (a, b) (R57). -/
def FloorMap.transfer (m : FloorMap) (a b : Fin 8) : Option Transfer := m.transfers[transferIndex a b]

/-! ## Editing the staged map (R59 to R62) -/

/-- A zone written into every floor of a range (R59). -/
def FloorMap.setZones (m : FloorMap) (first last : Nat) (z : Option (Fin 8)) : FloorMap :=
  { m with zones := Vector.ofFn fun i : Fin 160 => if first ≤ i.val ∧ i.val ≤ last then z else m.zones[i] }

/-- SET FLOOR (R59): form 0 carries the floor count, form 1 a range of floors and a zone. -/
def execSetFloor (fell : Fall) (args : List Byte) (s : State) : Host.Outcome State Fault Refusal :=
  s.command fell args fun s =>
    match args with
    | [form, count] =>
      if form = 0 ∧ count.toNat ≤ Config.floors then
        { s with staged := { s.staged with count := count.toNat } }.finishPlain .ok
      else s.finishPlain .badArg
    | [form, first, last, zone] =>
      match readOptZone zone with
      | none => s.finishPlain .badArg
      | some z =>
        if form = 1 ∧ first.toNat < Config.floors ∧ last.toNat < Config.floors ∧ first.toNat ≤ last.toNat then
          { s with staged := s.staged.setZones first.toNat last.toNat z }.finishPlain .ok
        else s.finishPlain .badArg
    | _ => s.finishPlain .badArg

/-- SET GROUP (R60): the group's whole served set. -/
def execSetGroup (fell : Fall) (args : List Byte) (s : State) : Host.Outcome State Fault Refusal :=
  s.command fell args fun s =>
    match args with
    | [] => s.finishPlain .badArg
    | g :: rest =>
      match readId 12 g, readFloorSet rest with
      | some g, some fs => { s with staged := { s.staged with served := s.staged.served.set g fs } }.finishPlain .ok
      | _, _ => s.finishPlain .badArg

/-- SET ZONE (R61): local and standby group, each or absent. -/
def execSetZone (fell : Fall) (args : List Byte) (s : State) : Host.Outcome State Fault Refusal :=
  s.command fell args fun s =>
    match args with
    | [z, l, b] =>
      match readId 8 z, readOptGroup l, readOptGroup b with
      | some z, some l, some b =>
        if b.isSome ∧ (l = none ∨ b = l) then s.finishPlain .badArg
        else
          { s with
            staged := { s.staged with
              zoneTable := s.staged.zoneTable.set z { localGroup := l, standby := b } } }.finishPlain .ok
      | _, _, _ => s.finishPlain .badArg
    | _ => s.finishPlain .badArg

/-- The transfer SET TRANSFER gives: absent for group 255, whose floor is not read (R62, R195). -/
def readTransfer (g f : Byte) : Option (Option Transfer) :=
  match readOptGroup g with
  | none => none
  | some none => some none
  | some (some g) => if f.toNat < Config.floors then some (some { group := g, floor := f.toNat }) else none

/-- SET TRANSFER (R62). -/
def execSetTransfer (fell : Fall) (args : List Byte) (s : State) : Host.Outcome State Fault Refusal :=
  s.command fell args fun s =>
    match args with
    | [a, b, g, f] =>
      match readId 8 a, readId 8 b, readTransfer g f with
      | some a, some b, some t =>
        if a = b then s.finishPlain .badArg
        else
          { s with
            staged := { s.staged with transfers := s.staged.transfers.set (transferIndex a b) t } }.finishPlain .ok
      | _, _, _ => s.finishPlain .badArg
    | _ => s.finishPlain .badArg

/-! ## Committing (R63 to R65) -/

/-- Whether a floor fails stage 1 of the commit check (R63). -/
def FloorMap.unserved (m : FloorMap) (f : Nat) : Bool :=
  match m.zoneOf f with
  | none => false
  | some z =>
    match m.zoneTable[z].localGroup with
    | none => true
    | some g => !m.serves g f

/-- Whether a zone fails stage 2 (R63). -/
def FloorMap.standbyGap (m : FloorMap) (z : Fin 8) : Bool :=
  match m.zoneTable[z].standby with
  | none => false
  | some g => (List.range Config.floors).any fun f => m.zoneOf f == some z && !m.serves g f

/-- Whether the transfer entry (a, b) fails stage 3 (R63). -/
def FloorMap.transferFault (m : FloorMap) (a b : Fin 8) : Bool :=
  match m.transfer a b with
  | none => false
  | some t => m.zoneOf t.floor == none || m.zoneOf t.floor == some a || !m.serves t.group t.floor

/-- Whether a floor fails stage 4 (R63). -/
def FloorMap.countFault (m : FloorMap) (f : Nat) : Bool := decide (m.count ≤ f) && (m.zoneOf f).isSome

/-- The first failing item of the commit check, by its kind code and index (R63, R184). -/
def FloorMap.firstFault (m : FloorMap) : Option (Nat × Nat) :=
  match (List.range Config.floors).find? m.unserved with
  | some f => some (1, f)
  | none =>
    match (List.finRange 8).find? m.standbyGap with
    | some z => some (2, z.val)
    | none =>
      match (List.finRange 64).find? fun i => m.transferFault ⟨i.val / 8, by omega⟩ ⟨i.val % 8, by omega⟩ with
      | some i => some (3, i.val)
      | none =>
        match (List.range Config.floors).find? m.countFault with
        | some f => some (4, f)
        | none => none

/-- COMMIT MAP (R63, R64). -/
def execCommitMap (fell : Fall) (args : List Byte) (s : State) : Host.Outcome State Fault Refusal :=
  s.plainCommand fell args fun s =>
    match s.staged.firstFault with
    | none => { s with live := s.staged }.finishPlain .ok
    | some (kind, index) => s.finish .invalidMap [byte1 kind, byte1 index]

/-- DISCARD MAP (R65). -/
def execDiscardMap (fell : Fall) (args : List Byte) (s : State) : Host.Outcome State Fault Refusal :=
  s.plainCommand fell args fun s => { s with staged := s.live }.finishPlain .ok

/-! ## Reading the maps (R66) -/

/-- The part FLOORS: floor count and the zones of all floors, 161 bytes (R195). -/
def FloorMap.floorsForm (m : FloorMap) : List Byte := byte1 m.count :: m.zones.toList.map optByte

/-- The part TRANSFERS of an origin zone: eight entries, (a, a) shown absent (R66, R195). -/
def FloorMap.transfersForm (m : FloorMap) (a : Fin 8) : List Byte :=
  (List.finRange 8).flatMap fun b => transferForm (if a = b then none else m.transfer a b)

/-- The map a selector names (R184). -/
def State.selected (s : State) (selector : Nat) : Option FloorMap :=
  match selector with
  | 0 => some s.live
  | 1 => some s.staged
  | _ => none

/-- The result bytes of READ MAP; none where an enumeration byte has no code or the index is out of its range (R66). -/
def State.readMapBytes (s : State) (selector part index : Byte) : Option (List Byte) :=
  match s.selected selector.toNat with
  | none => none
  | some m =>
    match part.toNat with
    | 0 => some m.floorsForm
    | 1 => (readId 12 index).map fun g => floorListForm m.served[g]
    | 2 => (readId 8 index).map fun z => [optByte m.zoneTable[z].localGroup, optByte m.zoneTable[z].standby]
    | 3 => (readId 8 index).map m.transfersForm
    | 4 => (readId 16 index).map fun n => s.lobbies[n].form
    | _ => none

/-- READ MAP (R66). -/
def execReadMap (fell : Fall) (args : List Byte) (s : State) : Host.Outcome State Fault Refusal :=
  s.command fell args fun s =>
    match args with
    | [selector, part, index] =>
      match s.readMapBytes selector part index with
      | some bytes => s.finish .ok bytes
      | none => s.finishPlain .badArg
    | _ => s.finishPlain .badArg

/-! ## The Lobby Table (R71) -/

/-- SET LOBBY (R71): the passback window is clamped to 600. -/
def execSetLobby (fell : Fall) (args : List Byte) (s : State) : Host.Outcome State Fault Refusal :=
  s.command fell args fun s =>
    match args with
    | [n, origin, w1, w0, policy] =>
      match readId 16 n, Fallback.ofCode policy.toNat with
      | some n, some policy =>
        if origin.toNat < Config.floors then
          let entry : Lobby := { origin := origin.toNat, window := min 600 (num [w1, w0]), policy := policy }
          { s with lobbies := s.lobbies.set n entry }.finish
            (if num [w1, w0] ≤ 600 then .ok else .okClamped) entry.form
        else s.finishPlain .badArg
      | _, _ => s.finishPlain .badArg
    | _ => s.finishPlain .badArg

/-! ## Routes (R68 to R70) -/

/-- The outcome of a leg by the state of the one group it depends on (R70). -/
def legByState (g : GroupState) (r : Route) : Except ReplyCode Route :=
  match g with
  | .inService => .ok r
  | .recall => .error .holdRecall
  | .outOfService => .error .holdUnavailable

/-- Whether a standby group is usable for a leg (R69). -/
def FloorMap.standbyUsable (m : FloorMap) (groups : Vector GroupState 12) (g : Fin 12) (o f : Nat) : Bool :=
  groups[g] == .inService && m.serves g o && m.serves g f

/-- A route within one zone (R69). -/
def FloorMap.sameZoneRoute (m : FloorMap) (groups : Vector GroupState 12) (z : Fin 8) (o f : Nat) :
    Except ReplyCode Route :=
  match m.zoneTable[z].localGroup with
  | none => .error .denyNoRoute
  | some g =>
    if m.serves g o && m.serves g f then
      match groups[g], m.zoneTable[z].standby with
      | .outOfService, some b =>
        if m.standbyUsable groups b o f then .ok { group := b, target := f, finalFloor := f, tripNeeded := false }
        else .error .holdUnavailable
      | st, _ => legByState st { group := g, target := f, finalFloor := f, tripNeeded := false }
    else .error .denyNoRoute

/-- A cross-zone leg (R70). -/
def FloorMap.crossZoneRoute (m : FloorMap) (groups : Vector GroupState 12) (a b : Fin 8) (o f : Nat) :
    Except ReplyCode Route :=
  match m.transfer a b with
  | none => .error .denyNoRoute
  | some t =>
    if m.serves t.group o && m.serves t.group t.floor then
      legByState groups[t.group]
        { group := t.group, target := t.floor, finalFloor := f, tripNeeded := t.floor != f }
    else .error .denyNoRoute

/-- The route from origin floor `o` to final floor `f` (R68). -/
def FloorMap.route (m : FloorMap) (groups : Vector GroupState 12) (o f : Nat) : Except ReplyCode Route :=
  match m.zoneOf o, m.zoneOf f with
  | some a, some b => if a = b then m.sameZoneRoute groups a o f else m.crossZoneRoute groups a b o f
  | _, _ => .error .denyNoRoute

end Sys2Proof.Machine
end

