-- ==== Sys2Proof/Machine/Engine.lean ====
section
/-! DEFINITION. Chapter 5: the building-wide settings, arrival and the early checks, the decision, the offer, the reversal,
and the EMG line. -/

namespace Sys2Proof.Machine

/-! ## Settings (R76 to R79) -/

/-- SET SITES (R76): count 0..4, site codes of 2 bytes, none above 1,023, none twice. -/
def execSetSites (fell : Fall) (args : List Byte) (s : State) : Host.Outcome State Fault Refusal :=
  s.command fell args fun s =>
    match args with
    | [] => s.finishPlain .badArg
    | n :: rest =>
      match readNumbers n.toNat rest with
      | none => s.finishPlain .badArg
      | some sites =>
        if n.toNat ≤ 4 ∧ sites.all (fun c => decide (c ≤ Config.maxSite)) ∧ sites.Nodup then
          { s with settings := { s.settings with sites := sites } }.finish .ok
            (byte1 sites.length :: sites.flatMap (be 2))
        else s.finishPlain .badArg

/-- SET MODE (R77): building mode and admit set; bits 4..7 of an admit set have no meaning (R192). -/
def execSetMode (fell : Fall) (args : List Byte) (s : State) : Host.Outcome State Fault Refusal :=
  s.command fell args fun s =>
    match args with
    | [m, a] =>
      match BuildingMode.ofCode m.toNat with
      | some mode =>
        if a.toNat < 16 then
          { s with settings := { s.settings with mode := mode, admitSet := a.setWidth 4 } }.finish .ok [m, a]
        else s.finishPlain .badArg
      | none => s.finishPlain .badArg
    | _ => s.finishPlain .badArg

/-- SET CLOSURES (R78): the whole closure set; the result is the number of floors stored. -/
def execSetClosures (fell : Fall) (args : List Byte) (s : State) : Host.Outcome State Fault Refusal :=
  s.command fell args fun s =>
    match readFloorSet args with
    | some fs => { s with settings := { s.settings with closures := fs } }.finish .ok [byte1 fs.length]
    | none => s.finishPlain .badArg

/-- The five values of SET TIMERS clamped, the offer timeout then rounded down to a multiple of 100 (R79). -/
def Timers.clamped (t : Timers) : Timers :=
  { offerTimeout := clamp 200 5000 t.offerTimeout / 100 * 100
    tripLifetime := clamp 30 1800 t.tripLifetime
    retireGrace := clamp 0 10080 t.retireGrace
    sweepInterval := clamp 0 1440 t.sweepInterval
    nearFull := clamp 0 16384 t.nearFull }

/-- Whether all five values lie in their ranges (R79). -/
def Timers.inRange (t : Timers) : Bool :=
  decide (200 ≤ t.offerTimeout) && decide (t.offerTimeout ≤ 5000) && decide (30 ≤ t.tripLifetime)
    && decide (t.tripLifetime ≤ 1800) && decide (t.retireGrace ≤ 10080) && decide (t.sweepInterval ≤ 1440)
    && decide (t.nearFull ≤ 16384)

/-- The five values as the argument frame carries them (R195). -/
def readTimers (args : List Byte) : Timers :=
  { offerTimeout := field args 0 2, tripLifetime := field args 2 2, retireGrace := field args 4 2,
    sweepInterval := field args 6 2, nearFull := field args 8 2 }

/-- The interval timer's value for a sweep interval: I × 60,000 ms, or stopped for 0 (R161). -/
def intervalTimer (interval : Nat) : Option Nat := if interval = 0 then none else some (interval * Config.minute)

/-- SET TIMERS (R79); a sweep interval that differs from the one held loads the interval timer or stops it (R161). -/
def execSetTimers (fell : Fall) (args : List Byte) (s : State) : Host.Outcome State Fault Refusal :=
  s.command fell args fun s =>
    if args.length = 10 then
      let t := (readTimers args).clamped
      let timer :=
        if t.sweepInterval = s.settings.timers.sweepInterval then s.sweeper.timer else intervalTimer t.sweepInterval
      { s with
        settings := { s.settings with timers := t }
        sweeper := { s.sweeper with timer := timer } }.finish
          (if (readTimers args).inRange then .ok else .okClamped) t.form
    else s.finishPlain .badArg

/-! ## Arrival (R80 to R82) -/

/-- The early checks in order; the first condition that holds gives the reply (R81). -/
def State.earlyAnswer (s : State) (req : Request) (origin : Nat) : Option ReplyCode :=
  if s.emg then some .holdEmergency
  else if s.clock.state ≠ .running then some .holdClock
  else if s.dispatch.state = .silent then some .holdNoAnswer
  else if s.freeEntry = none then some .holdBusy
  else if !s.settings.sites.contains req.key.site then some .denyForeign
  else
    match req.requested with
    | none => none
    | some f =>
      if s.live.count ≤ f ∨ s.live.zoneOf f = none then some .refuseBadFloor
      else if f = origin then some .refuseSameFloor
      else none

/-- The entry an arrival takes (R82). -/
def newEntry (l : Fin 4) (d : Fin 28) (lobby : Fin 16) (origin : Nat) (req : Request) : Entry :=
  { link := l, drop := d, lobby := lobby, origin := origin, kind := req.kind, key := req.key, requested := req.requested,
    assist := req.assist, state := .probeHome, found := none, grant := none }

/-- An arrival that passes takes the entry, writes its number into the transaction (R117) and queues the home probe
(R82). -/
def State.takeEntry (s : State) (e : Fin 64) (l : Fin 4) (d : Fin 28) (origin : Nat) (req : Request) : State :=
  let x := s.drop l d
  let s := s.setEntry e (some (newEntry l d x.lobby origin req))
  let s := s.setDrop l d { x with transaction := x.transaction.map fun t => { t with entry := some e } }
  s.queueLookup { bucket := req.key.home, entry := e, kind := .probe }

/-- A request arrives from a drop whose transaction has just been opened for it (R80): an early answer is posted to that
transaction at once (R120), or an entry is taken. -/
def State.arrive (s : State) (l : Fin 4) (d : Fin 28) (req : Request) : State :=
  let origin := s.lobbies[(s.drop l d).lobby].origin
  match s.earlyAnswer req origin, s.freeEntry with
  | some c, _ => s.setDrop l d ((s.drop l d).withReply (.plain c))
  | none, some e => s.takeEntry e l d origin req
  | none, none => s

/-! ## The decision (R85 to R94) -/

/-- What a decision comes to: the lapse of step 1, a reply, or a granted journey with its route and whether it is a
continuation. -/
inductive Verdict where
  | lapse
  | answer (c : ReplyCode)
  | grant (r : Route) (continuation : Bool)
deriving DecidableEq, Repr

/-- Step 1's reply on the record's state and validity, or the lapse; none where it passes (R86). -/
def Record.standing (r : Record) (now : Nat) : Option Verdict :=
  match r.state with
  | .suspended => some (.answer .denySuspended)
  | .spent => some (.answer .denySpent)
  | .lapsed => some (.answer .denyLapsed)
  | .active =>
    if r.lapses now then some .lapse
    else
      match r.validFrom with
      | some v => if now < v then some (.answer .denyNotYet) else none
      | none => none

/-- Whether a holder class is in the admit set (R77). -/
def Settings.admits (x : Settings) (h : HolderClass) : Bool := x.admitSet.getLsbD h.code

/-- Step 3: the final floor and whether the request is a continuation; none gives NEED_FLOOR (R88, R153). -/
def State.settleFloor (s : State) (en : Entry) (r : Record) : Option (Nat × Bool) :=
  match en.kind, s.tripOf en.key with
  | .destination, _ => en.requested.map fun f => (f, false)
  | .arrival, some t =>
    if t.transfer = en.origin then some (t.finalFloor, true)
    else (r.defaultFloor.filter fun f => f != en.origin).map fun f => (f, false)
  | .arrival, none => (r.defaultFloor.filter fun f => f != en.origin).map fun f => (f, false)

/-- Step 5: whether passback refuses (R90). -/
def Record.passback (r : Record) (window origin now : Nat) : Bool :=
  match r.lastUse with
  | none => false
  | some u => u.floor == origin && decide (u.second ≤ now) && decide (now - u.second < window)

/-- Steps 4 and 5, for new journeys (R89, R90). -/
def State.entitlement (s : State) (en : Entry) (r : Record) (f : Nat) : Option ReplyCode :=
  if s.settings.closures.contains f ∧ r.holder ≠ .service then some .denyClosed
  else if !(s.effectiveFloors r).contains f then some .denyFloor
  else if r.passback s.lobbies[en.lobby].window en.origin s.nowSecond then some .denyPassback
  else none

/-- Steps 6 and 7: the route and the dispatch link (R91, R92). -/
def State.routeStep (s : State) (en : Entry) (f : Nat) (continuation : Bool) : Verdict :=
  match s.live.route s.dispatch.groups en.origin f with
  | .error c => .answer c
  | .ok r => if s.dispatch.state = .silent then .answer .holdNoAnswer else .grant r continuation

/-- Steps 1 to 7 in order (R85 to R92). -/
def State.decision (s : State) (en : Entry) (r : Record) : Verdict :=
  match r.standing s.now with
  | some v => v
  | none =>
    if s.settings.mode = .restrict ∧ !s.settings.admits r.holder then .answer .denyRestricted
    else
      match s.settleFloor en r with
      | none => .answer .needFloor
      | some (f, true) => s.routeStep en f true
      | some (f, false) =>
        match s.entitlement en r f with
        | some c => .answer c
        | none => s.routeStep en f false

/-- Whether the write-back takes a unit of budget: a new journey of a record with a budget (R93). -/
def Record.takesBudget (r : Record) (continuation : Bool) : Bool := !continuation && r.budget.isSome

/-- The write-back of step 8 (R93): a unit of budget, SPENT at 0, and the last use. -/
def Record.writeBack (r : Record) (continuation : Bool) (origin now second : Nat) : Record :=
  let r1 : Record :=
    match r.budget, continuation with
    | some b, false =>
      if b - 1 = 0 then { r with budget := some (b - 1), state := .spent, since := now }
      else { r with budget := some (b - 1) }
    | _, _ => r
  { r1 with lastUse := some { floor := origin, second := second } }

/-- The tag the next offer takes: the first value from the tag counter that no OFFERED entry holds, within 65 tries
(R138). -/
def State.nextTag (s : State) : Byte :=
  (((List.range 65).map fun i => s.dispatch.tagCounter + BitVec.ofNat 8 i).find? fun t => !s.tagHeld t).getD
    s.dispatch.tagCounter

/-- Step 9 and the tagging (R93, R138, R139): the OFFER joins the transmit queue, the counter passes the tag given, and the
entry becomes OFFERED with the tag and its deadline. -/
def State.makeOffer (s : State) (e : Fin 64) (en : Entry) (r : Record) (route : Route) (continuation : Bool) : State :=
  let tag := s.nextTag
  let offer : Offer :=
    { tag := tag, group := route.group, origin := en.origin, target := route.target, finalFloor := route.finalFloor,
      assist := r.assist || en.assist, kind := if continuation then .continuation else .new }
  let grant : Grant :=
    { route := route, budgetTaken := r.takesBudget continuation,
      useWritten := { floor := en.origin, second := s.nowSecond }, previous := r.lastUse }
  { s with
    dispatch := { s.dispatch with queue := s.dispatch.queue ++ [TxFrame.offer (some e) offer], tagCounter := tag + 1 } }.setEntry e
      (some { en with
        state := .offered tag (s.reference + s.settings.timers.offerTimeout) false, grant := some grant })

/-- The decision of the finding turn (R83 to R94): the record stands in bucket `b`, way `w`. -/
def State.takeDecision (s : State) (e : Fin 64) (en : Entry) (b : Bucket) (w : Way) (r : Record) : State :=
  let en := { en with found := some { bucket := b, way := w, edition := r.edition } }
  match s.decision en r with
  | .lapse => { s with store := s.store.write b w r.lapse }.answerAndFree e en (.plain .denyLapsed)
  | .answer c => s.answerAndFree e en (.plain c)
  | .grant route cont =>
    { s with store := s.store.write b w (r.writeBack cont en.origin s.now s.nowSecond) }.makeOffer e en r route cont

/-! ## LOOKUP turns: probes and reversals (R83, R84, R100) -/

/-- The turn of a probe (R83, R84). -/
def State.probeTurn (s : State) (e : Fin 64) (en : Entry) (b : Bucket) : State :=
  match s.store.search b en.key with
  | some (w, r) => s.takeDecision e en b w r
  | none =>
    if en.state = .probeHome then
      if s.emg then s.answerAndFree e en (.plain .holdEmergency)
      else
        (s.setEntry e (some { en with state := .probeAlt })).queueLookup
          { bucket := en.key.alternate, entry := e, kind := .probe }
    else s.answerAndFree e en (.plain .denyUnknown)

/-- What a reversal writes into a record that still holds the key with the found edition (R100). A record whose budget is absent
though the flag is set, which a wrap of the edition counter allows (R12), has no budget that could be 1 more, and no rule says what
is written: the model leaves budget, state and state since as they are, DESIGN CHOICE (notes/assumptions/30.md). -/
def Record.reversed (r : Record) (g : Grant) (now : Nat) : Record :=
  let r1 : Record :=
    match r.budget, g.budgetTaken with
    | some b, true =>
      if r.state = .spent then { r with budget := some (min 255 (b + 1)), state := .active, since := now }
      else { r with budget := some (min 255 (b + 1)) }
    | _, _ => r
  if r.lastUse = some g.useWritten then { r1 with lastUse := g.previous } else r1

/-- The store after an entry's reversal (R100): nothing is written where the way is FREE or holds another key or another
edition. -/
def Store.reverse (st : Store) (en : Entry) (now : Nat) : Store :=
  match en.found, en.grant with
  | some f, some g =>
    match st.slot f.bucket f.way with
    | some r =>
      if r.key = en.key ∧ r.edition = f.edition then st.write f.bucket f.way (r.reversed g now) else st
    | none => st
  | _, _ => st

/-- The turn of a reversal (R100): the entry is freed with either outcome; no reply is posted. -/
def State.reversalTurn (s : State) (e : Fin 64) (en : Entry) : State :=
  { s with store := s.store.reverse en s.now }.setEntry e none

/-- The turn of a LOOKUP request (R27, R83, R84, R100). -/
def State.lookupTurn (s : State) (q : LookupRequest) : State :=
  match s.entries[q.entry] with
  | none => s
  | some en =>
    match q.kind with
    | .probe => s.probeTurn q.entry en q.bucket
    | .reversal => s.reversalTurn q.entry en

/-! ## The end of an offer (R97, R98) -/

/-- The entry's reversal is queued on the found bucket's bank and the entry becomes REVERSING (R98). -/
def State.startReversal (s : State) (e : Fin 64) (en : Entry) : State :=
  match en.found with
  | some f =>
    (s.setEntry e (some { en with state := .reversing })).queueLookup
      { bucket := f.bucket, entry := e, kind := .reversal }
  | none => s.setEntry e none

/-- A declined or expired offer: the reply is posted first, then the reversal is queued (R98). -/
def State.failOffer (s : State) (e : Fin 64) (en : Entry) (c : ReplyCode) : State :=
  (s.post e en (.plain c)).startReversal e en

/-! ## The EMG line (R102, R103) -/

/-- Whether a probe of an entry waits in a bank's LOOKUP queue. -/
def State.probeWaits (s : State) (e : Fin 64) : Bool :=
  s.banks.toList.any fun b => b.lookup.any fun q => q.entry == e && q.kind == .probe

/-- Withdraws an entry's waiting probe; the requests behind it keep their order (R29). -/
def State.withdrawProbe (s : State) (e : Fin 64) : State :=
  { s with
    banks := s.banks.map fun b => { b with lookup := b.lookup.filter fun q => !(q.entry == e && q.kind == .probe) } }

/-- The assertion of EMG at one entry: an entry in PROBE_HOME or PROBE_ALT whose probe waits has it withdrawn, is answered
HOLD_EMERGENCY and is freed (R102). -/
def State.holdEntry (s : State) (e : Fin 64) : State :=
  match s.entries[e] with
  | none => s
  | some en =>
    if (en.state = .probeHome ∨ en.state = .probeAlt) ∧ s.probeWaits e then
      (s.withdrawProbe e).answerAndFree e en (.plain .holdEmergency)
    else s

/-- EMG_ASSERT (R102): an assertion while already asserted is not an event (R103); in reset only the level is taken
(R181). -/
def execEmgAssert (s : State) : Host.Outcome State Fault Refusal :=
  .next <|
    if s.emg then s
    else if s.inReset then { s with emg := true }
    else (List.finRange 64).foldl State.holdEntry { s with emg := true }

/-- EMG_RELEASE (R103): answers no entry and starts no probe. -/
def execEmgRelease (s : State) : Host.Outcome State Fault Refusal := .next { s with emg := false }

end Sys2Proof.Machine
end

