-- ==== Sys2Proof/Machine/Sweeper.lean ====
section
/-! DEFINITION. Chapter 9: starting a pass, the sweep turn, and the end of a pass. -/

namespace Sys2Proof.Machine

/-- A pass starts (R163). -/
def State.startPass (s : State) : State :=
  { s with
    sweeper := { s.sweeper with state := .passing, pointer := 0, passLapsed := 0, passRetired := 0 } }.queueSweep 0

/-- SWEEP_INTERVAL_EXPIRY (R161): a timer that has reached 0 is loaded again; a pass starts in IDLE with the clock RUNNING. A
timer that is stopped, or that SET TIMERS or the end of a pass has loaded since, does not expire, and no timer counts in reset
(R181). -/
def execSweepIntervalExpiry (s : State) : Host.Outcome State Fault Refusal :=
  .next <|
    if s.inReset ∨ s.sweeper.timer ≠ some 0 then s
    else
      let s := { s with sweeper := { s.sweeper with timer := intervalTimer s.settings.timers.sweepInterval } }
      if s.sweeper.state = .idle ∧ s.clock.state = .running then s.startPass else s

/-- SWEEP NOW (R162): the first condition that holds gives the result. -/
def execSweepNow (fell : Fall) (args : List Byte) (s : State) : Host.Outcome State Fault Refusal :=
  s.plainCommand fell args fun s =>
    if s.clock.state ≠ .running then s.finishPlain .wrongState
    else if s.sweeper.state = .passing then s.finishPlain .busy
    else s.startPass.finishPlain .ok

/-- The sweep turn at one way, judged by the state it holds (R165). -/
def State.sweepWay (b : Bucket) (s : State) (w : Way) : State :=
  match s.store.slot b w with
  | none => s
  | some r =>
    if r.state = .active ∨ r.state = .suspended then
      if r.lapses s.now then
        { s with
          store := s.store.write b w r.lapse
          sweeper := { s.sweeper with passLapsed := s.sweeper.passLapsed + 1 } }
      else s
    else if r.since + s.settings.timers.retireGrace ≤ s.now then
      { s with
        store := s.store.release b w
        sweeper := { s.sweeper with passRetired := s.sweeper.passRetired + 1 } }
    else s

/-- The end of a pass, in its order (R167). -/
def State.endPass (s : State) : State :=
  { s with
    sweeper := { s.sweeper with
      lastLapsed := s.sweeper.passLapsed, lastRetired := s.sweeper.passRetired, state := .idle, pointer := 0,
      timer := intervalTimer s.settings.timers.sweepInterval } }.raise .sweepDone

/-- After the sweep turn on a bucket: the pointer advances and the next bucket is queued, or the pass ends (R164). -/
def State.advanceSweep (s : State) (b : Bucket) : State :=
  if h : b.val + 1 < 4096 then
    { s with sweeper := { s.sweeper with pointer := ⟨b.val + 1, h⟩ } }.queueSweep ⟨b.val + 1, h⟩
  else s.endPass

/-- A SWEEP turn on a bucket (R164, R165): its ways are judged only while the clock is RUNNING. -/
def State.sweepTurn (s : State) (b : Bucket) : State :=
  (if s.clock.state = .running then ways.foldl (State.sweepWay b) s else s).advanceSweep b

end Sys2Proof.Machine
end

