-- ==== Sys2Proof/Machine/Banks.lean ====
section
/-! DEFINITION. Chapter 2: the bank's turn, and the commands that change and read its pattern. -/

namespace Sys2Proof.Machine

/-- At position 0 a staged pattern becomes current (R30, R35). -/
def Bank.adopt (b : Bank) : Bank :=
  match b.staged with
  | some p => if b.position = 0 then { b with pattern := p, staged := none } else b
  | none => b

/-- What a turn serves. -/
inductive Served where
  | nothing
  | lookup (q : LookupRequest)
  | upkeep (q : UpkeepRequest)
  | sweep (b : Bucket)
deriving DecidableEq, Repr

/-- The head of the LOOKUP queue is taken (R31). -/
def Bank.takeLookup (b : Bank) : Bank × Served :=
  match b.lookup with
  | q :: rest => ({ b with lookup := rest }, .lookup q)
  | [] => (b, .nothing)

/-- The waiting UPKEEP request is taken (R31). -/
def Bank.takeUpkeep (b : Bank) : Bank × Served :=
  match b.upkeep with
  | q :: rest => ({ b with upkeep := rest }, .upkeep q)
  | [] => (b, .nothing)

/-- A SWEEP position serves the SWEEP request, or is lent to UPKEEP while no pass is in progress (R32). -/
def Bank.takeSweep (b : Bank) (passing : Bool) : Bank × Served :=
  match b.sweep with
  | q :: rest => ({ b with sweep := rest }, .sweep q)
  | [] => if passing then (b, .nothing) else b.takeUpkeep

/-- The arbiter's choice at its position (R30 to R32): the bank after the turn, with its position advanced, and what is
served. -/
def Bank.turn (b : Bank) (passing : Bool) : Bank × Served :=
  let b := b.adopt
  let (b', served) :=
    match b.pattern[b.position] with
    | .lookup => b.takeLookup
    | .upkeep => b.takeUpkeep
    | .sweep => b.takeSweep passing
    | .idle => (b, .nothing)
  ({ b' with position := b'.position + 1 }, served)

/-- The action of the served request (R4, R30). -/
def State.serve (s : State) : Served → State
  | .nothing => s
  | .lookup q => s.lookupTurn q
  | .upkeep q => s.upkeepTurn q
  | .sweep b => s.sweepTurn b

/-- BANK_TURN (R30): one whole turn of a bank; in reset no bank takes a turn (R181). -/
def execBankTurn (bank : Fin 4) (s : State) : Host.Outcome State Fault Refusal :=
  .next <|
    if s.inReset then s
    else
      let t := s.banks[bank].turn (s.sweeper.state == .passing)
      { s with banks := s.banks.set bank t.1 }.serve t.2

/-- SET PATTERN (R34, R35): a valid pattern is staged. -/
def execSetPattern (fell : Fall) (args : List Byte) (s : State) : Host.Outcome State Fault Refusal :=
  s.command fell args fun s =>
    match args with
    | [] => s.finishPlain .badArg
    | n :: rest =>
      match readId 4 n, readPattern rest with
      | some n, some p =>
        if Pattern.valid p then
          { s with banks := s.banks.set n { s.banks[n] with staged := some p } }.finishPlain .ok
        else s.finishPlain .badArg
      | _, _ => s.finishPlain .badArg

/-- The result of READ PATTERN, 18 bytes (R36, R195). -/
def Bank.form (b : Bank) : List Byte :=
  Pattern.form b.pattern
    ++ (match b.staged with
        | some p => 1 :: Pattern.form p
        | none => 0 :: List.replicate 8 0)
    ++ [byte1 b.position]

/-- READ PATTERN (R36). -/
def execReadPattern (fell : Fall) (args : List Byte) (s : State) : Host.Outcome State Fault Refusal :=
  s.command fell args fun s =>
    match args with
    | [n] =>
      match readId 4 n with
      | some n => s.finish .ok s.banks[n].form
      | none => s.finishPlain .badArg
    | _ => s.finishPlain .badArg

end Sys2Proof.Machine
end

