-- ==== Sys2Proof/Machine/DispatchLink.lean ====
section
/-! DEFINITION. Chapter 7 and the Trip Table's part in an ASSIGN (chapter 8): received frames, sent frames, offers' ends, link
states and the LINK CHECK timer. -/

namespace Sys2Proof.Machine

/-! ## Liveness (R132, R134) -/

/-- The link becomes ACTIVE: DISPATCH_CHANGE, the re-announcement, and the LINK CHECK timer stops (R134). -/
def State.becomeActive (s : State) : State :=
  ({ s with dispatch := { s.dispatch with state := .active, checkTimer := none } }.raise .dispatchChange).reannounce

/-- A good frame's first step (R132, R134): the receiver is outside a frame again (R190), the consecutive-timeout count is
zeroed, and a SILENT link becomes ACTIVE. -/
def State.hear (s : State) : State :=
  let s := { s with dispatch := { s.dispatch with timeouts := 0, receiver := .outside } }
  if s.dispatch.state = .silent then s.becomeActive else s

/-- A good frame: not taken in reset (R181); liveness first, then its content (R132). -/
def State.receive (s : State) (content : State → State) : Host.Outcome State Fault Refusal :=
  .next (if s.inReset then s else content s.hear)

/-! ## Answers (R140, R141, R143) -/

/-- Whether an entry's offer is outstanding under a tag: OFFERED, and its OFFER completely sent (R139). -/
def Entry.outstanding (en : Entry) (tag : Byte) : Bool :=
  match en.state with
  | .offered t _ true => t == tag
  | _ => false

/-- The entry whose outstanding offer carries a tag (R140). -/
def State.outstanding (s : State) (tag : Byte) : Option (Fin 64 × Entry) :=
  (List.finRange 64).findSome? fun e =>
    match s.entries[e] with
    | some en => if en.outstanding tag then some (e, en) else none
    | none => none

/-- A stale answer is counted (R143). -/
def State.stale (s : State) : State :=
  { s with dispatch := { s.dispatch with staleAnswers := saturate s.dispatch.staleAnswers } }

/-- Whether an ASSIGN creates a trip: trip needed, and a place after the key's old trip is removed (R149). -/
def State.createsTrip (s : State) (k : Key) (r : Route) : Bool :=
  r.tripNeeded && decide ((s.removeTrip k).trips.length < Config.tripCapacity)

/-- The Trip Table at an ASSIGN: the key's trip is removed, then a trip is created where it is needed and there is room
(R149). -/
def State.assignTrip (s : State) (k : Key) (r : Route) : State :=
  if s.createsTrip k r then
    { s with
      trips := (s.removeTrip k).trips ++
        [{ key := k, transfer := r.target, finalFloor := r.finalFloor, group := r.group,
           remaining := s.settings.timers.tripLifetime }] }
  else s.removeTrip k

/-- An ASSIGN that matches an outstanding offer (R97, R140): the Trip Table, ACCEPT with the continuation-available flag, and
the entry is freed. -/
def State.assigned (s : State) (e : Fin 64) (en : Entry) (car : Fin 16) : State :=
  match en.grant with
  | some g =>
    (s.assignTrip en.key g.route).answerAndFree e en
      (.accept g.route.group car g.route.target (s.createsTrip en.key g.route))
  | none => s.setEntry e none

/-- ASSIGN (R140, R143). -/
def execAssign (tag : Byte) (car : Fin 16) (s : State) : Host.Outcome State Fault Refusal :=
  s.receive fun s =>
    match s.outstanding tag with
    | some (e, en) => s.assigned e en car
    | none => s.stale

/-- The reply a decline's reason gives (R98, R141). -/
def declineReply : DeclineReason → ReplyCode
  | .groupFull => .holdBusy
  | .groupOut => .holdUnavailable
  | .noCar => .holdUnavailable

/-- Writes a group's state (R144). -/
def State.setGroupState (s : State) (g : Fin 12) (x : GroupState) : State :=
  { s with dispatch := { s.dispatch with groups := s.dispatch.groups.set g x } }

/-- GROUP_OUT sets the offer's group OUT_OF_SERVICE (R141). -/
def State.declineGroup (s : State) (en : Entry) (reason : DeclineReason) : State :=
  match reason, en.grant with
  | .groupOut, some g => s.setGroupState g.route.group .outOfService
  | _, _ => s

/-- DECLINE (R141, R143): the table is written first, then the reply is posted and the reversal queued. -/
def execDecline (tag : Byte) (reason : DeclineReason) (s : State) : Host.Outcome State Fault Refusal :=
  s.receive fun s =>
    match s.outstanding tag with
    | some (e, en) => (s.declineGroup en reason).failOffer e en (declineReply reason)
    | none => s.stale

/-- GROUP STATE (R144). -/
def execGroupState (group : Fin 12) (state : GroupState) (s : State) : Host.Outcome State Fault Refusal :=
  s.receive fun s => s.setGroupState group state

/-- LINK ANSWER (R134): it acts only on the link's liveness. -/
def execLinkAnswer (s : State) : Host.Outcome State Fault Refusal := s.receive id

/-! ## Bad frames (R132, R145, R190) -/

/-- A frame that is not good is discarded and counted; the receiver is outside a frame again (R132, R190). -/
def State.frameError (s : State) : State :=
  { s with
    dispatch := { s.dispatch with frameErrors := saturate s.dispatch.frameErrors, receiver := .outside } }

/-- DISPATCH_BAD_FRAME (R132, R190): a completed frame that fails its check or is malformed, or one ended by its length byte.
Bytes that are a good frame are no such event. Bytes that are neither complete nor ended so (no bytes at all, a first byte
other than 126) are no frame of the spec; that the model counts them as one bad frame is its own choice, DESIGN CHOICE
(notes/assumptions/27.md). -/
def execDispatchBadFrame (bytes : List Byte) (s : State) : Host.Outcome State Fault Refusal :=
  if (readDispatch bytes).isSome then .refused .notThisEvent
  else .next (if s.inReset then s else s.frameError)

/-- DISPATCH_FRAME_GAP (R190): a frame being assembled ends as incomplete; outside a frame nothing is counted. -/
def execDispatchFrameGap (s : State) : Host.Outcome State Fault Refusal :=
  .next (if s.inReset ∨ s.dispatch.receiver = .outside then s else s.frameError)

/-- FRAME_BEGINS (R190): a byte of value 126 outside a frame begins one. -/
def execFrameBegins (s : State) : Host.Outcome State Fault Refusal :=
  .next (if s.inReset then s else { s with dispatch := { s.dispatch with receiver := .assembling } })

/-! ## Sending (R133, R139) -/

/-- Whether the frame leaving is the last LOBBY NOTICE waiting while re-announcement is owed (R133). -/
def reannounceDue (f : TxFrame) (rest : List TxFrame) (owed : Bool) : Bool :=
  f.isNotice && owed && !rest.any TxFrame.isNotice

/-- FRAME_TRANSMIT (R133): on a free line the head of the queue becomes the frame in transmission. -/
def execFrameTransmit (s : State) : Host.Outcome State Fault Refusal :=
  .next <|
    if s.inReset ∨ s.dispatch.sending.isSome then s
    else
      match s.dispatch.queue with
      | [] => s
      | f :: rest =>
        let s' := { s with dispatch := { s.dispatch with queue := rest, sending := some f } }
        if reannounceDue f rest s.dispatch.owed then s'.reannounce else s'

/-- The offer of an entry becomes outstanding (R139). -/
def Entry.markSent (en : Entry) : Entry :=
  match en.state with
  | .offered t d _ => { en with state := .offered t d true }
  | _ => en

/-- A completely sent frame: an OFFER makes its entry's offer outstanding (R139). -/
def State.sent (s : State) : TxFrame → State
  | .offer (some e) _ =>
    match s.entries[e] with
    | some en => s.setEntry e (some en.markSent)
    | none => s
  | _ => s

/-- FRAME_SENT (R133, R139): the line is free again. -/
def execFrameSent (s : State) : Host.Outcome State Fault Refusal :=
  .next <|
    if s.inReset then s
    else
      match s.dispatch.sending with
      | none => s
      | some f => { s with dispatch := { s.dispatch with sending := none } }.sent f

/-! ## Expiry and silence (R135, R136, R142) -/

/-- The link becomes SILENT (R135): DISPATCH_CHANGE, a LINK CHECK at once, and the LINK CHECK timer starts. -/
def State.becomeSilent (s : State) : State :=
  { s with
    dispatch :=
      { s.dispatch with state := .silent, checkTimer := some Config.linkCheckPeriod }.queueLinkCheck }.raise .dispatchChange

/-- The expiry of a sent offer adds to the consecutive-timeout count, held at 3; reaching 3 in ACTIVE makes the link SILENT
(R135). -/
def State.countTimeout (s : State) : State :=
  let s := { s with dispatch := { s.dispatch with timeouts := min 3 (s.dispatch.timeouts + 1) } }
  if s.dispatch.timeouts = 3 ∧ s.dispatch.state = .active then s.becomeSilent else s

/-- The frame of an expired offer that is in transmission is sent to its end for no entry (R142). -/
def TxFrame.disown (e : Fin 64) (f : TxFrame) : TxFrame :=
  match f with
  | .offer (some o) x => if o = e then .offer none x else .offer (some o) x
  | other => other

/-- An offer that expires before it is sent leaves the queue; one in transmission is sent to its end (R142). -/
def State.dropOffer (s : State) (e : Fin 64) : State :=
  { s with
    dispatch := { s.dispatch with
      queue := s.dispatch.queue.filter (fun f => !f.ownedBy e), sending := s.dispatch.sending.map (TxFrame.disown e) } }

/-- Whether the reference has reached the deadline of an OFFERED entry (R142). -/
def State.offerDue (s : State) (e : Fin 64) : Bool :=
  match s.entries[e] with
  | none => false
  | some en =>
    match en.state with
    | .offered _ deadline _ => decide (deadline ≤ s.reference)
    | _ => false

/-- OFFER_EXPIRY (R142): the reference has reached the deadline of an OFFERED entry; an entry that is not OFFERED, or that a
later offer has taken since, has no expiry (R143). -/
def execOfferExpiry (entry : Fin 64) (s : State) : Host.Outcome State Fault Refusal :=
  .next <|
    if s.inReset then s
    else
      match s.entries[entry] with
      | none => s
      | some en =>
        match en.state with
        | .offered _ deadline sent =>
          if s.reference < deadline then s
          else (if sent then s.countTimeout else s.dropOffer entry).failOffer entry en .holdNoAnswer
        | _ => s

/-- LINK_CHECK_TIMER (R136): the timer has completed 1,000 ms, a LINK CHECK falls due and the timer starts again; the timer is
stopped while ACTIVE. -/
def execLinkCheckTimer (s : State) : Host.Outcome State Fault Refusal :=
  .next <|
    if s.inReset ∨ s.dispatch.checkTimer ≠ some 0 then s
    else
      { s with dispatch := { s.dispatch with checkTimer := some Config.linkCheckPeriod }.queueLinkCheck }

end Sys2Proof.Machine
end

