-- ==== Sys2Proof/Machine/Links.lean ====
section
/-! DEFINITION. Chapter 6: the request links: polling, drop supervision, transactions, answer modes and the watch. -/

namespace Sys2Proof.Machine

/-! ## The watch record (R126) -/

/-- At a delivery or the sending of a side answer of the watch drop, the watch record is overwritten and counted (R126). -/
def State.watchWrite (s : State) (l : Fin 4) (d : Fin 28) (w : WatchRecord) : State :=
  if s.watch.selection = some (l, d) then
    { s with watch := { s.watch with record := some w, count := saturate s.watch.count } }
  else s

/-! ## Polling (R107) -/

/-- Whether a drop of a link is enabled. -/
def Link.dropEnabled (k : Link) (d : Fin 28) : Bool := k.drops[d].enabled

/-- The drop the walk reaches next: the lowest enabled address above the one last polled, or else the lowest enabled
address (R107). -/
def Link.next (k : Link) : Option (Fin 28) :=
  match (List.finRange 28).find? fun d => decide (k.walk < address d) && k.dropEnabled d with
  | some d => some d
  | none => (List.finRange 28).find? k.dropEnabled

/-- Whether a link has an enabled drop. -/
def Link.anyEnabled (k : Link) : Bool := (List.finRange 28).any k.dropEnabled

/-- What a poll of a drop carries (R107): the reply, the side answer where the slot is empty, or nothing. -/
def Drop.item (x : Drop) : PollItem :=
  match x.transaction.bind fun t => t.reply.map fun r => (r, t.request.number), x.side with
  | some (r, n), _ => .reply r n
  | none, some a => .side a.code a.number
  | none, none => .nothing

/-- The watch record of a side answer (R126). -/
def SideAnswer.record (a : SideAnswer) : WatchRecord :=
  { kind := a.kind, key := a.key, requested := a.requested, reply := .plain a.code }

/-- A poll that carries a side answer of the watch drop writes the watch record (R119, R126). -/
def State.watchPoll (s : State) (l : Fin 4) (d : Fin 28) : State :=
  match (s.drop l d).item, (s.drop l d).side with
  | .side _ _, some a => s.watchWrite l d a.record
  | _, _ => s

/-- A poll of a drop is sent: the side answer is discarded from the drop record, sent or not (R119). -/
def State.sendPoll (s : State) (l : Fin 4) (d : Fin 28) : State :=
  let x := s.drop l d
  let s := s.watchPoll l d
  let s := s.setDrop l d { x with side := none }
  { s with
    links := s.links.set l { s.links[l] with
      walk := address d, poll := some { drop := d, item := x.item, settings := s.links[l].settings } } }

/-- POLL (R107): an enabled link whose present poll has its outcome polls its next enabled drop; nothing is sent in reset
(R181). -/
def execPoll (link : Fin 4) (s : State) : Host.Outcome State Fault Refusal :=
  .next <|
    if s.inReset ∨ s.links[link].settings.enabled = false ∨ s.links[link].poll.isSome then s
    else
      match s.links[link].next with
      | some d => s.sendPoll link d
      | none => s

/-! ## Step 1: delivery (R109, R121) -/

/-- Whether a poll carried the reply of the drop's slot. -/
def Poll.carriedReply (p : Poll) : Bool :=
  match p.item with
  | .reply _ _ => true
  | _ => false

/-- The reply in a drop's slot with its request, as a watch record (R126). -/
def Drop.delivery (x : Drop) : Option WatchRecord :=
  x.transaction.bind fun t =>
    t.reply.map fun r => { kind := t.request.kind, key := t.request.key, requested := t.request.requested, reply := r }

/-- A good answer to a poll that carried the reply delivers it: the transaction is closed, the slot empties and the watch
record of the watch drop is written (R121). -/
def State.deliver (s : State) (l : Fin 4) (p : Poll) : State :=
  if p.carriedReply then
    let x := s.drop l p.drop
    let s :=
      match x.delivery with
      | some w => s.watchWrite l p.drop w
      | none => s
    s.setDrop l p.drop { x with transaction := none }
  else s

/-! ## Step 2: supervision (R112 to R114) -/

/-- A poll outcome counted in a drop's block; the 64th ends the block and judges the drop (R114). The second component tells
whether the drop fell to DEGRADED. -/
def Drop.countBlock (x : Drop) (good : Bool) : Drop × Bool :=
  let polls := x.blockPolls + 1
  let failed := x.blockFailed + (if good then 0 else 1)
  if polls = Config.blockLength then
    let st : DropState :=
      match x.state with
      | .online => if 9 ≤ failed then .degraded else .online
      | .degraded => if failed ≤ 2 then .online else .degraded
      | other => other
    ({ x with state := st, blockPolls := 0, blockFailed := 0 }, x.state == .online && st == .degraded)
  else ({ x with blockPolls := polls, blockFailed := failed }, false)

/-- A good answer in supervision (R112, R114). -/
def Drop.superviseGood (x : Drop) : Drop × Bool :=
  let x := { x with good := min 2 (x.good + 1), failed := 0 }
  if x.answering then x.countBlock true
  else if (x.state = .seeking ∨ x.state = .lost) ∧ x.good = 2 then ({ x with state := .online }.zeroed, false)
  else (x, false)

/-- A failed poll in supervision; the third consecutive one takes an ONLINE or DEGRADED drop to LOST, closes its transaction
and abandons its block (R112 to R114). The second component tells whether DROP_CHANGE is raised. -/
def Drop.superviseFailed (x : Drop) : Drop × Bool :=
  let x := { x with good := 0, failed := min 3 (x.failed + 1) }
  if x.answering then
    if x.failed = 3 then ({ x with state := .lost }.zeroed.closed, true) else x.countBlock false
  else (x, false)

/-- Step 2 of R109: the drop's counts and state, DROP_CHANGE, and the lobbies (R112 to R114, R123). -/
def State.supervise (s : State) (l : Fin 4) (d : Fin 28) (good : Bool) : State :=
  let x := if good then (s.drop l d).superviseGood else (s.drop l d).superviseFailed
  let s := s.setDrop l d x.1
  let s := if x.2 then s.raise .dropChange else s
  s.recompute

/-! ## Steps 3 and 4: tamper and content (R116, R118) -/

/-- A good answer with TAMPER set bars the drop and raises TAMPER (R116). -/
def State.tamper (s : State) (l : Fin 4) (d : Fin 28) : State :=
  (s.setDrop l d { s.drop l d with mode := .barred }).raise .tamper

/-- The transaction opened for a request (R117, R118). -/
def Request.transaction (r : Request) (reply : Option Reply) : Transaction :=
  { request := r, entry := none, reply := reply }

/-- A request turned away (R118): with no transaction open, one is opened and the reply posted to its slot; otherwise the
code is given as a side answer, which replaces one still waiting (R119). -/
def Drop.turnAway (x : Drop) (r : Request) (c : ReplyCode) : Drop :=
  match x.transaction with
  | none => { x with transaction := some (r.transaction (some (.plain c))) }
  | some _ =>
    { x with side := some { code := c, number := r.number, kind := r.kind, key := r.key, requested := r.requested } }

/-- The checks of a good REQUEST in order; an accepted request opens a transaction and arrives at the engine in the same
event (R118). A REQUEST that answers a poll sent before the engine posted finds the reply slot full and is given BUSY as a side
answer, by R109 step 1 and R118 check 3, against the remark of R119 that a side answer can arise only while the slot is empty:
DESIGN CHOICE (notes/assumptions/26.md). A REQUEST with TAMPER set from a drop that is SEEKING or LOST is given NOT_READY, by the
order of R118's checks, where R116 says that it is answered OUT_OF_SERVICE: DESIGN CHOICE (notes/assumptions/29.md). -/
def State.request (s : State) (l : Fin 4) (d : Fin 28) (r : Request) : State :=
  let x := s.drop l d
  if !x.answering then s.setDrop l d (x.turnAway r .notReady)
  else if x.mode = .barred then s.setDrop l d (x.turnAway r .outOfService)
  else if x.transaction.isSome then s.setDrop l d (x.turnAway r .busy)
  else (s.setDrop l d { x with transaction := some (r.transaction none) }).arrive l d r

/-! ## Outcomes (R108, R109) -/

/-- The poll under way has its outcome. -/
def State.endPoll (s : State) (l : Fin 4) : State :=
  { s with links := s.links.set l { s.links[l] with poll := none } }

/-- A good answer handled in order: delivery, supervision, tamper, content (R109). -/
def State.goodAnswer (s : State) (l : Fin 4) (p : Poll) (a : Answer) : State :=
  let s := (s.deliver l p).supervise l p.drop true
  let s := if a.tamper then s.tamper l p.drop else s
  match a.request with
  | some r => s.request l p.drop r
  | none => s

/-- A failed poll: only supervision acts (R108, R109). -/
def State.failedPoll (s : State) (l : Fin 4) (p : Poll) : State := s.supervise l p.drop false

/-- POLL_ANSWER (R109, R188): the bytes that arrive from the polled drop are a good answer or a bad one. An answer with no poll
under way, or in reset, is not taken (R106, R107, R181). -/
def execPollAnswer (link : Fin 4) (bytes : List Byte) (s : State) : Host.Outcome State Fault Refusal :=
  .next <|
    if s.inReset then s
    else
      match s.links[link].poll with
      | none => s
      | some p =>
        match readAnswer p.drop bytes with
        | some a => (s.endPoll link).goodAnswer link p a
        | none => (s.endPoll link).failedPoll link p

/-- POLL_ANSWER_TIMEOUT (R188): the poll under way fails. -/
def execPollAnswerTimeout (link : Fin 4) (s : State) : Host.Outcome State Fault Refusal :=
  .next <|
    if s.inReset then s
    else
      match s.links[link].poll with
      | none => s
      | some p => (s.endPoll link).failedPoll link p

/-! ## Commands (R105, R106, R111, R115, R125, R126) -/

/-- A drop disabled or enabled by SET DROP, its answer mode kept (R111). -/
def Drop.setEnabled (x : Drop) (enabled : Bool) : Drop :=
  if enabled then
    if x.enabled then x else { x with state := .seeking }.zeroed
  else if x.enabled then { x with state := .disabled }.zeroed.closed
  else x

/-- A drop disabled while its own poll awaits its answer: the answer is not taken (R107). With no enabled drop left, the walk
is to start again at the lowest enabled address (R107). -/
def Link.afterSetDrop (k : Link) (d : Fin 28) : Link :=
  { k with
    poll := if k.dropEnabled d then k.poll else k.poll.filter fun p => p.drop != d
    walk := if k.anyEnabled then k.walk else 0 }

/-- SET DROP's effect (R111). -/
def State.writeDrop (s : State) (l : Fin 4) (d : Fin 28) (enabled : Bool) (lobby : Fin 16) : State :=
  let s := s.setDrop l d { (s.drop l d).setEnabled enabled with lobby := lobby }
  { s with links := s.links.set l (s.links[l].afterSetDrop d) }.recompute

/-- SET DROP (R111): link, drop, enabled, lobby. -/
def execSetDrop (fell : Fall) (args : List Byte) (s : State) : Host.Outcome State Fault Refusal :=
  s.command fell args fun s =>
    match args with
    | [l, d, en, n] =>
      match readLinkDrop l d, readYesNo en, readId 16 n with
      | some (l, d), some en, some n => (s.writeDrop l d en n).finishPlain .ok
      | _, _, _ => s.finishPlain .badArg
    | _ => s.finishPlain .badArg

/-- Writes a drop's answer mode (R115). -/
def State.setMode (s : State) (l : Fin 4) (d : Fin 28) (m : AnswerMode) : State :=
  s.setDrop l d { s.drop l d with mode := m }

/-- BAR DROP and UNBAR DROP (R115): link and drop, in any drop state. -/
def State.modeCommand (s : State) (fell : Fall) (args : List Byte) (m : AnswerMode) : Host.Outcome State Fault Refusal :=
  s.command fell args fun s =>
    match args with
    | [l, d] =>
      match readLinkDrop l d with
      | some (l, d) => (s.setMode l d m).finishPlain .ok
      | none => s.finishPlain .badArg
    | _ => s.finishPlain .badArg

/-- BAR DROP (R115). -/
def execBarDrop (fell : Fall) (args : List Byte) (s : State) : Host.Outcome State Fault Refusal :=
  s.modeCommand fell args .barred

/-- UNBAR DROP (R115). -/
def execUnbarDrop (fell : Fall) (args : List Byte) (s : State) : Host.Outcome State Fault Refusal :=
  s.modeCommand fell args .serve

/-- The greatest divisor setting of a granularity (R105). -/
def Granularity.maxDivisor : Granularity → Nat
  | .power => 14
  | .fine => 4095

/-- A link's settings clamped (R105). -/
def LinkSettings.clamped (x : LinkSettings) : LinkSettings :=
  { x with divisor := clamp 0 x.granularity.maxDivisor x.divisor, limit := clamp 1 15 x.limit }

/-- A drop of a link that is being disabled: an enabled drop goes to SEEKING, its counts zeroed and its transaction closed;
a disabled drop is left (R106). -/
def Drop.cutOff (x : Drop) : Drop := if x.enabled then { x with state := .seeking }.zeroed.closed else x

/-- A link under new settings (R105, R106): disabling an enabled link cuts off its poll and its enabled drops; the walk starts
again at the lowest enabled address when the link is enabled again (R107). -/
def Link.withSettings (k : Link) (x : LinkSettings) : Link :=
  if k.settings.enabled ∧ ¬ x.enabled then
    { settings := x, drops := k.drops.map Drop.cutOff, walk := 0, poll := none }
  else if x.enabled ∧ ¬ k.settings.enabled then { k with settings := x, walk := 0 }
  else { k with settings := x }

/-- SET LINK (R105): link, enabled, granularity, divisor setting (2), poll answer limit. -/
def execSetLink (fell : Fall) (args : List Byte) (s : State) : Host.Outcome State Fault Refusal :=
  s.command fell args fun s =>
    match args with
    | [l, en, g, d1, d0, limit] =>
      match readId 4 l, readYesNo en, Granularity.ofCode g.toNat with
      | some l, some en, some g =>
        let asked : LinkSettings := { enabled := en, granularity := g, divisor := num [d1, d0], limit := limit.toNat }
        { s with links := s.links.set l (s.links[l].withSettings asked.clamped) }.recompute.finish
          (if asked.clamped = asked then .ok else .okClamped) asked.clamped.form
      | _, _, _ => s.finishPlain .badArg
    | _ => s.finishPlain .badArg

/-- WATCH's selection: present, link, drop, the last two not read when absent (R125, R195). -/
def readSelection (p l d : Byte) : Option (Option (Fin 4 × Fin 28)) :=
  match readYesNo p with
  | none => none
  | some false => some none
  | some true => (readLinkDrop l d).map some

/-- WATCH (R125): the record is emptied and the count zeroed. -/
def execWatch (fell : Fall) (args : List Byte) (s : State) : Host.Outcome State Fault Refusal :=
  s.command fell args fun s =>
    match args with
    | [p, l, d] =>
      match readSelection p l d with
      | some sel => { s with watch := { selection := sel, record := none, count := 0 } }.finishPlain .ok
      | none => s.finishPlain .badArg
    | _ => s.finishPlain .badArg

/-- The result of READ WATCH, 22 bytes (R126, R195). -/
def State.watchForm (s : State) : List Byte :=
  (match s.watch.selection with
   | some (l, d) => [1, byte1 l, byte1 (address d)]
   | none => [0, 0, 0])
    ++ watchRecordForm s.watch.record ++ be 2 s.watch.count
    ++ (match s.watch.selection with
        | some (l, d) =>
          let x := s.drop l d
          [byte1 x.state.code, byte1 x.mode.code, byte1 x.good, byte1 x.failed, byte1 x.blockPolls, byte1 x.blockFailed]
        | none => List.replicate 6 0)

/-- READ WATCH (R126). -/
def execReadWatch (fell : Fall) (args : List Byte) (s : State) : Host.Outcome State Fault Refusal :=
  s.plainCommand fell args fun s => s.finish .ok s.watchForm

end Sys2Proof.Machine
end

