-- ==== Sys2Proof/Machine/Port.lean ====
section
/-! DEFINITION. Chapter 10: transactions that carry no known command, RESPONSE, READ STATUS and the attention commands. -/

namespace Sys2Proof.Machine

/-! ## Transactions (R170 to R174) -/

/-- A transaction that is discarded: the last-transaction outcome becomes FRAME_ERROR and nothing else of the engine changes
(R171). -/
def State.discardFrame (s : State) : State := { s with port := { s.port with outcome := .frameError } }

/-- FRAME_ERROR (R170, R171): no whole byte clocked in leaves no mark; a first byte that names neither kind, or a COMMAND frame
that is not good, is discarded. Bytes that are a good transaction are no such event. In reset no transaction is taken,
nor one from before it (R181). -/
def execFrameError (fell : Fall) (bytes : List Byte) (s : State) : Host.Outcome State Fault Refusal :=
  match classify bytes with
  | .nothing => .next s
  | .discarded => .next (if s.portShut fell then s else (s.clockOut fell bytes.length []).discardFrame)
  | .command _ _ => .refused .notThisEvent
  | .response => .refused .notThisEvent

/-- UNKNOWN_COMMAND (R172): a taken command whose code names no command ends at once with UNKNOWN_COMMAND. A known code is no
such event. -/
def execUnknownCommand (fell : Fall) (code : Byte) (args : List Byte) (s : State) : Host.Outcome State Fault Refusal :=
  if knownCodes.contains code.toNat then .refused .notThisEvent
  else s.command fell args fun s => s.finishPlain .unknownCommand

/-- A result as it is clocked out: code, length, bytes (R174, R191). -/
def Result.bytesOut (r : Result) : List Byte := byte1 r.code.code :: byte1 r.bytes.length :: r.bytes

/-- What a RESPONSE clocks out after the status byte: the result where chip select fell in DONE, else fill bytes (R174). -/
def State.afterStatus (s : State) (fell : Fall) : List Byte :=
  if s.engineAtFall fell = .done then
    match s.port.buffer with
    | some r => r.bytesOut
    | none => []
  else []

/-- The result is consumed: the buffer is emptied, the engine becomes IDLE, and COMMAND_DONE is cleared (R174, R177), which may
pulse ATTN (R180). -/
def State.consume (s : State) : State :=
  { s with
    port := { s.port with engine := .idle, buffer := none }
    attention :=
      (s.attention.clear Source.commandDone.mask).pulse (s.attention.live &&& Source.commandDone.mask) }

/-- RESPONSE (R174): `clocks` whole bytes; a DONE-state RESPONSE that clocks out at least the status byte and the result code
consumes the result. -/
def execResponse (fell : Fall) (clocks : Nat) (s : State) : Host.Outcome State Fault Refusal :=
  .next <|
    if s.portShut fell ∨ clocks = 0 then s
    else
      let s' := s.clockOut fell clocks (s.afterStatus fell)
      if s.engineAtFall fell = .done ∧ 2 ≤ clocks then s'.consume else s'

/-! ## READ STATUS (R175) -/

/-- The status picture of 171 bytes, in the order of R195. -/
def State.statusPicture (s : State) : List Byte :=
  be 2 s.store.occupancy ++ be 2 s.store.edition
    ++ [byte1 s.entriesInUse, yesNo s.emg]
    ++ be 2 s.trips.length
    ++ [byte1 s.clock.state.code] ++ be 2 s.clock.day ++ [byte1 s.clock.weekday] ++ be 2 s.clock.minute
    ++ [byte1 s.clock.second, byte1 s.clock.source.code]
    ++ s.allDrops.map Drop.status
    ++ s.service.toList.map (fun x => byte1 x.code)
    ++ [byte1 s.dispatch.state.code]
    ++ s.dispatch.groups.toList.map (fun g => byte1 (groupStateCode g))
    ++ be 2 s.dispatch.frameErrors ++ be 2 s.dispatch.staleAnswers
    ++ [byte1 s.sweeper.state.code] ++ be 2 s.sweeper.pointer ++ be 2 s.sweeper.lastLapsed ++ be 2 s.sweeper.lastRetired
    ++ [s.attention.pending, s.attention.enables, byte1 s.attention.mode.code]

/-- READ STATUS (R175): one picture at the command's taking, COMMAND_DONE shown clear. -/
def execReadStatus (fell : Fall) (args : List Byte) (s : State) : Host.Outcome State Fault Refusal :=
  s.plainCommand fell args fun s => s.finish .ok s.statusPicture

/-! ## Attention commands (R178) -/

/-- SET ATTENTION (R178): enables and mode; a change to LEVEL ends a release at once (R180). -/
def execSetAttention (fell : Fall) (args : List Byte) (s : State) : Host.Outcome State Fault Refusal :=
  s.command fell args fun s =>
    match args with
    | [en, m] =>
      match AttnMode.ofCode m.toNat with
      | some mode =>
        { s with
          attention := { s.attention with
            enables := en, mode := mode, release := if mode = AttnMode.level then 0 else s.attention.release } }.finish
          .ok [en, m, s.attention.pending]
      | none => s.finishPlain .badArg
    | _ => s.finishPlain .badArg

/-- CLEAR ATTENTION's clear: each named pending source, and the pulse test of R180. -/
def Attention.clearNamed (a : Attention) (set : BitVec 8) : Attention := (a.clear set).pulse (a.live &&& set)

/-- CLEAR ATTENTION (R178). -/
def execClearAttention (fell : Fall) (args : List Byte) (s : State) : Host.Outcome State Fault Refusal :=
  s.command fell args fun s =>
    match args with
    | [set] =>
      let s := { s with attention := s.attention.clearNamed set }
      s.finish .ok [s.attention.pending]
    | _ => s.finishPlain .badArg

/-- ATTN_PULSE_END (R180): the release ends; ATTN follows the pending enabled sources again. No timer counts in reset
(R181). -/
def execAttnPulseEnd (s : State) : Host.Outcome State Fault Refusal :=
  .next (if s.inReset then s else { s with attention := { s.attention with release := 0 } })

end Sys2Proof.Machine
end

