-- ==== Sys2Proof/Machine/Resets.lean ====
section
/-! DEFINITION. The two resets and their end (R181 to R183, and the reset rule of each chapter), and the passing of time while
no command waits. -/

namespace Sys2Proof.Machine

/-- A bank in a warm reset: the current pattern is kept (R38). -/
def Bank.warm (b : Bank) : Bank :=
  { b with staged := none, position := 0, lookup := [], upkeep := [], sweep := [] }

/-- The clock in a warm reset: the tick source is kept (R46). -/
def Clock.warm (c : Clock) : Clock := { coldClock with source := c.source }

/-- A drop in a warm reset: enabled setting, lobby and answer mode are kept (R128). -/
def Drop.warm (x : Drop) : Drop :=
  { x with state := if x.enabled then .seeking else .disabled }.zeroed.closed

/-- A link in a warm reset: its settings are kept, its poll is abandoned, the walk starts at the lowest enabled address
(R128). -/
def Link.warm (k : Link) : Link := { k with drops := k.drops.map Drop.warm, walk := 0, poll := none }

/-- The sweeper in either reset: IDLE, counts zeroed, the interval timer loaded with the sweep interval (R169). -/
def resetSweeper (interval : Nat) : Sweeper :=
  { state := .idle, pointer := 0, timer := intervalTimer interval, passLapsed := 0, passRetired := 0, lastLapsed := 0,
    lastRetired := 0 }

/-- The service states recomputed from the drop records, silently (R128). -/
def State.resetService (s : State) : State := { s with service := Vector.ofFn s.serviceOf }

/-- A warm reset, in the event of its beginning: each block keeps what it keeps and resets the rest (R25, R38, R46, R49, R56,
R67, R72, R104, R128, R147, R159, R169, R183). -/
def State.warmReset (s : State) : State :=
  State.resetService
    { s with
      banks := s.banks.map Bank.warm
      clock := s.clock.warm
      staged := s.live
      entries := Vector.replicate 64 none
      links := s.links.map Link.warm
      watch := { s.watch with record := none, count := 0 }
      dispatch := resetDispatch
      trips := []
      sweeper := resetSweeper s.settings.timers.sweepInterval
      port := { engine := .idle, outcome := .none, indication := .warm, buffer := none, out := [] }
      attention := { s.attention with pending := 0, release := 0 }
      inReset := true }

/-- The end of a reset (R181): the first LINK CHECK is composed and the LINK CHECK timer starts (R146, R147); links may poll
and banks turn again. -/
def State.endReset (s : State) : State :=
  { s with
    inReset := false
    dispatch := { s.dispatch with checkTimer := some Config.linkCheckPeriod }.queueLinkCheck }

/-- A cold reset, in the event of its beginning: every block in its cold state (R25, R37, R46, R49, R56, R67, R72, R104, R127,
R146, R159, R169, R183). The level of EMG and the queue of commands are not the part's own. -/
def State.coldReset (s : State) : State := { State.cold with emg := s.emg, pending := s.pending }

/-- COLD_RESET (R181): the part stays in reset until RESET_N is high. -/
def execColdReset (resetHigh : Bool) (s : State) : Host.Outcome State Fault Refusal :=
  .next (if resetHigh then s.coldReset.endReset else s.coldReset)

/-- WARM_RESET (R181): RESET_N falls; it cannot fall while it is low. -/
def execWarmReset (s : State) : Host.Outcome State Fault Refusal :=
  .next (if s.inReset then s else s.warmReset)

/-- RESET_END (R181): RESET_N rises; it cannot rise while it is high. -/
def execResetEnd (s : State) : Host.Outcome State Fault Refusal :=
  .next (if s.inReset then s.endReset else s)

/-- A warm reset that begins and ends in one event (R182); the bytes that its own transaction clocked out before stand
(R170). -/
def State.restarted (s : State) : State :=
  let t := s.warmReset.endReset
  { t with port := { t.port with out := s.port.out } }

/-- RESTART (R182): a warm reset that begins and ends in the event of the command's taking; a frame that carries arguments
ends BAD_ARG. -/
def execRestart (fell : Fall) (args : List Byte) (s : State) : Host.Outcome State Fault Refusal :=
  s.plainCommand fell args State.restarted

/-! ## Time passing -/

/-- A countdown of one millisecond. -/
def countdown (t : Option Nat) : Option Nat := t.map fun n => n - 1

/-- The rows of the timers that are due, the offers' expiries in ascending order of entry (R40, R136, R142, R161, R180). -/
def State.due (s : State) : List Instr :=
  (if s.clock.source = .internal ∧ s.tickDue then [.internalTick] else [])
    ++ (if s.sweeper.timer = some 0 then [.sweepIntervalExpiry] else [])
    ++ (if s.dispatch.checkTimer = some 0 then [.linkCheckTimer] else [])
    ++ ((List.finRange 64).filter s.offerDue).map .offerExpiry
    ++ (if s.attention.release ≠ 0 then [.attnPulseEnd] else [])

/-- One millisecond of the internal reference on every counter that counts it (R40, R136, R161). -/
def State.count (s : State) : State :=
  { s with
    reference := s.reference + 1
    clock := if s.clock.source = .internal then { s.clock with divider := s.clock.divider + 1 } else s.clock
    sweeper := { s.sweeper with timer := countdown s.sweeper.timer }
    dispatch := { s.dispatch with checkTimer := countdown s.dispatch.checkTimer } }

/-- What a step is while no command waits: one millisecond of the internal reference passes, and the rows that are due join
the queue. In reset no timer counts (R181). A DESIGN CHOICE of the model (notes/assumptions/1.md). -/
def State.millisecond (s : State) : State :=
  if s.inReset then s else { s.count with pending := s.count.due }

end Sys2Proof.Machine
end

