-- ==== Sys2Proof/Machine/Dispatch.lean ====
section
/-! DEFINITION. `exec`: one arm for each row of spec/opcode_table.json, each one direct call of the row's meaning. -/

namespace Sys2Proof.Machine

def exec (i : Instr) (s : State) : Host.Outcome State Fault Refusal :=
  match i with
  | .coldReset resetHigh => Sys2Proof.Machine.execColdReset resetHigh s
  | .warmReset => Sys2Proof.Machine.execWarmReset s
  | .resetEnd => Sys2Proof.Machine.execResetEnd s
  | .tickEdge => Sys2Proof.Machine.execTickEdge s
  | .internalTick => Sys2Proof.Machine.execInternalTick s
  | .clockEnd => Sys2Proof.Machine.execClockEnd s
  | .tripExpiry => Sys2Proof.Machine.execTripExpiry s
  | .emgAssert => Sys2Proof.Machine.execEmgAssert s
  | .emgRelease => Sys2Proof.Machine.execEmgRelease s
  | .frameError fell bytes => Sys2Proof.Machine.execFrameError fell bytes s
  | .unknownCommand fell code args => Sys2Proof.Machine.execUnknownCommand fell code args s
  | .response fell clocks => Sys2Proof.Machine.execResponse fell clocks s
  | .putCredential fell args => Sys2Proof.Machine.execPutCredential fell args s
  | .getCredential fell args => Sys2Proof.Machine.execGetCredential fell args s
  | .dropCredential fell args => Sys2Proof.Machine.execDropCredential fell args s
  | .setState fell args => Sys2Proof.Machine.execSetState fell args s
  | .replenish fell args => Sys2Proof.Machine.execReplenish fell args s
  | .readSlot fell args => Sys2Proof.Machine.execReadSlot fell args s
  | .putProfile fell args => Sys2Proof.Machine.execPutProfile fell args s
  | .getProfile fell args => Sys2Proof.Machine.execGetProfile fell args s
  | .setFloor fell args => Sys2Proof.Machine.execSetFloor fell args s
  | .setGroup fell args => Sys2Proof.Machine.execSetGroup fell args s
  | .setZone fell args => Sys2Proof.Machine.execSetZone fell args s
  | .setTransfer fell args => Sys2Proof.Machine.execSetTransfer fell args s
  | .commitMap fell args => Sys2Proof.Machine.execCommitMap fell args s
  | .discardMap fell args => Sys2Proof.Machine.execDiscardMap fell args s
  | .readMap fell args => Sys2Proof.Machine.execReadMap fell args s
  | .setLobby fell args => Sys2Proof.Machine.execSetLobby fell args s
  | .setDrop fell args => Sys2Proof.Machine.execSetDrop fell args s
  | .barDrop fell args => Sys2Proof.Machine.execBarDrop fell args s
  | .unbarDrop fell args => Sys2Proof.Machine.execUnbarDrop fell args s
  | .setLink fell args => Sys2Proof.Machine.execSetLink fell args s
  | .watch fell args => Sys2Proof.Machine.execWatch fell args s
  | .readWatch fell args => Sys2Proof.Machine.execReadWatch fell args s
  | .setPattern fell args => Sys2Proof.Machine.execSetPattern fell args s
  | .readPattern fell args => Sys2Proof.Machine.execReadPattern fell args s
  | .setClock fell args => Sys2Proof.Machine.execSetClock fell args s
  | .setTickSource fell args => Sys2Proof.Machine.execSetTickSource fell args s
  | .putHolidays fell args => Sys2Proof.Machine.execPutHolidays fell args s
  | .setSites fell args => Sys2Proof.Machine.execSetSites fell args s
  | .setMode fell args => Sys2Proof.Machine.execSetMode fell args s
  | .setClosures fell args => Sys2Proof.Machine.execSetClosures fell args s
  | .setTimers fell args => Sys2Proof.Machine.execSetTimers fell args s
  | .sweepNow fell args => Sys2Proof.Machine.execSweepNow fell args s
  | .readStatus fell args => Sys2Proof.Machine.execReadStatus fell args s
  | .setAttention fell args => Sys2Proof.Machine.execSetAttention fell args s
  | .clearAttention fell args => Sys2Proof.Machine.execClearAttention fell args s
  | .restart fell args => Sys2Proof.Machine.execRestart fell args s
  | .bankTurn bank => Sys2Proof.Machine.execBankTurn bank s
  | .sweepIntervalExpiry => Sys2Proof.Machine.execSweepIntervalExpiry s
  | .poll link => Sys2Proof.Machine.execPoll link s
  | .pollAnswer link bytes => Sys2Proof.Machine.execPollAnswer link bytes s
  | .pollAnswerTimeout link => Sys2Proof.Machine.execPollAnswerTimeout link s
  | .assign tag car => Sys2Proof.Machine.execAssign tag car s
  | .decline tag reason => Sys2Proof.Machine.execDecline tag reason s
  | .groupState group state => Sys2Proof.Machine.execGroupState group state s
  | .linkAnswer => Sys2Proof.Machine.execLinkAnswer s
  | .dispatchBadFrame bytes => Sys2Proof.Machine.execDispatchBadFrame bytes s
  | .dispatchFrameGap => Sys2Proof.Machine.execDispatchFrameGap s
  | .frameTransmit => Sys2Proof.Machine.execFrameTransmit s
  | .frameSent => Sys2Proof.Machine.execFrameSent s
  | .offerExpiry entry => Sys2Proof.Machine.execOfferExpiry entry s
  | .linkCheckTimer => Sys2Proof.Machine.execLinkCheckTimer s
  | .attnPulseEnd => Sys2Proof.Machine.execAttnPulseEnd s
  | .frameBegins => Sys2Proof.Machine.execFrameBegins s

end Sys2Proof.Machine
end

