-- ==== Sys2Proof/WellFormed.lean ====
section
/-! DEFINITION. Which commands are well formed: the checks a command's operands must meet for it to be the event its row
names. -/

namespace Sys2Proof

/-- The arguments of a COMMAND frame: at most 255 bytes, since the frame's length is one byte (R191). -/
def argsFit (args : List Byte) : Bool := decide (args.length ≤ 255)

/-- Well-formed commands. FRAME_ERROR carries the bytes of a transaction to be discarded (R170, R171), UNKNOWN_COMMAND a code
that names no command (R172), POLL_ANSWER one complete frame (R188), DISPATCH_BAD_FRAME a frame that is complete
or ended by its length byte and is not good (R132, R190), and RESPONSE at least one whole byte (R170). -/
def WellFormed (i : Instr) : Bool :=
  match i with
  | .coldReset _ | .warmReset | .resetEnd | .tickEdge | .internalTick | .clockEnd | .tripExpiry | .emgAssert
  | .emgRelease => true
  | .frameError _ bytes => Machine.classify bytes == .discarded
  | .unknownCommand _ code args => !Machine.knownCodes.contains code.toNat && argsFit args
  | .response _ clocks => decide (0 < clocks)
  | .putCredential _ args | .getCredential _ args | .dropCredential _ args | .setState _ args | .replenish _ args
  | .readSlot _ args | .putProfile _ args | .getProfile _ args | .setFloor _ args | .setGroup _ args | .setZone _ args
  | .setTransfer _ args | .commitMap _ args | .discardMap _ args | .readMap _ args | .setLobby _ args | .setDrop _ args
  | .barDrop _ args | .unbarDrop _ args | .setLink _ args | .watch _ args | .readWatch _ args | .setPattern _ args
  | .readPattern _ args | .setClock _ args | .setTickSource _ args | .putHolidays _ args | .setSites _ args
  | .setMode _ args | .setClosures _ args | .setTimers _ args | .sweepNow _ args | .readStatus _ args
  | .setAttention _ args | .clearAttention _ args | .restart _ args => argsFit args
  | .bankTurn _ | .sweepIntervalExpiry | .poll _ => true
  | .pollAnswer _ bytes => Machine.answerComplete bytes
  | .pollAnswerTimeout _ | .assign _ _ | .decline _ _ | .groupState _ _ | .linkAnswer => true
  | .dispatchBadFrame bytes =>
    Machine.dispatchOverlong bytes || (Machine.dispatchComplete bytes && (Machine.readDispatch bytes).isNone)
  | .dispatchFrameGap | .frameTransmit | .frameSent | .offerExpiry _ | .linkCheckTimer | .attnPulseEnd
  | .frameBegins => true

end Sys2Proof
end

