-- ==== Sys2Proof/Safety.lean ====
section
/-! DEFINITION. The terms in which statements about the part are made: the argument frames of the maintenance commands written
from values, the taking and the end of a command, the turn of a bank, the tick, and the invariants that every step keeps. -/

namespace Sys2Proof.Args

open Machine

/-! ## Argument frames, written from values (R192 to R195) -/

/-- A floor list (R192). -/
def floors (l : List Nat) : List Byte := byte1 l.length :: l.map byte1

/-- A list of numbers of 2 bytes behind its count (R195). -/
def numbers (l : List Nat) : List Byte := byte1 l.length :: l.flatMap (be 2)

/-- A floor, group, zone or transfer floor that may be absent (R192). -/
def optional {n : Nat} (g : Option (Fin n)) : Byte :=
  match g with
  | some g => byte1 g
  | none => 255

/-- A key (R192). -/
def key (k : Key) : List Byte := be 2 k.site ++ be 3 k.card

/-- SET CLOCK: day, weekday, minute of day, second. -/
structure ClockValues where
  day : Nat
  weekday : Nat
  minute : Nat
  second : Nat

def clock (v : ClockValues) : List Byte := be 2 v.day ++ [byte1 v.weekday] ++ be 2 v.minute ++ [byte1 v.second]

/-- The two forms of SET FLOOR (R59). -/
inductive FloorEdit where
  | count (n : Nat)
  | range (first last : Nat) (zone : Option (Fin 8))

def floorEdit : FloorEdit → List Byte
  | .count n => [0, byte1 n]
  | .range first last zone => [1, byte1 first, byte1 last, optional zone]

/-- SET TRANSFER (R62): the floor byte of an absent entry is not read. -/
structure TransferValues where
  origin : Fin 8
  destination : Fin 8
  entry : Option Transfer
  unread : Byte

def transfer (v : TransferValues) : List Byte :=
  [byte1 v.origin, byte1 v.destination]
    ++ (match v.entry with
        | some t => [byte1 t.group, byte1 t.floor]
        | none => [255, v.unread])

/-- The parts of READ MAP with their indices (R66); the index byte of FLOORS is not read. -/
inductive MapPart where
  | floors (unread : Byte)
  | group (g : Fin 12)
  | zone (z : Fin 8)
  | transfers (a : Fin 8)
  | lobby (n : Fin 16)

def mapPart : MapPart → List Byte
  | .floors unread => [0, unread]
  | .group g => [1, byte1 g]
  | .zone z => [2, byte1 z]
  | .transfers a => [3, byte1 a]
  | .lobby n => [4, byte1 n]

/-- READ MAP: whether the staged map is selected, and the part. -/
def readMap (v : Bool × MapPart) : List Byte := (if v.1 then 1 else 0) :: mapPart v.2

/-- SET LOBBY (R71). -/
structure LobbyValues where
  lobby : Fin 16
  origin : Nat
  window : Nat
  policy : Fallback

def lobby (v : LobbyValues) : List Byte :=
  [byte1 v.lobby, byte1 v.origin] ++ be 2 v.window ++ [byte1 v.policy.code]

/-- SET DROP (R111). -/
structure DropValues where
  link : Fin 4
  drop : Fin 28
  enabled : Bool
  lobby : Fin 16

def drop (v : DropValues) : List Byte := [byte1 v.link, byte1 (v.drop.val + 1), yesNo v.enabled, byte1 v.lobby]

/-- A link and a drop address (R115). -/
def linkDrop (v : Fin 4 × Fin 28) : List Byte := [byte1 v.1, byte1 (v.2.val + 1)]

/-- SET LINK (R105). -/
def link (v : Fin 4 × LinkSettings) : List Byte :=
  [byte1 v.1, yesNo v.2.enabled, byte1 v.2.granularity.code] ++ be 2 v.2.divisor ++ [byte1 v.2.limit]

/-- WATCH (R125): link and drop bytes are not read where the selection is none. -/
inductive Selection where
  | none (unread1 unread2 : Byte)
  | drop (link : Fin 4) (drop : Fin 28)

def selection : Selection → List Byte
  | .none a b => [0, a, b]
  | .drop l d => [1, byte1 l, byte1 (d.val + 1)]

/-- SET PATTERN (R34). -/
def pattern (v : Fin 4 × Pattern) : List Byte := byte1 v.1 :: v.2.toList.map fun c => byte1 c.code

/-- SET TIMERS (R79). -/
def timers (t : Timers) : List Byte :=
  be 2 t.offerTimeout ++ be 2 t.tripLifetime ++ be 2 t.retireGrace ++ be 2 t.sweepInterval ++ be 2 t.nearFull

/-- SET MODE (R77). -/
def mode (v : BuildingMode × BitVec 4) : List Byte := [byte1 v.1.code, v.2.setWidth 8]

/-- A profile as PUT PROFILE carries it: floors in any order, with repeats (R51, R193). -/
structure ProfileValues where
  number : Fin 256
  floors : List Nat
  windows : List Window

def window (w : Window) : List Byte := w.days :: (be 2 w.start ++ be 2 w.stop)

def profile (v : ProfileValues) : List Byte :=
  byte1 v.number :: floors v.floors ++ byte1 v.windows.length :: v.windows.flatMap window

/-- PUT CREDENTIAL: the record and the bytes of the form that are not read (R193, R194). -/
structure CredentialValues where
  credential : Credential
  profilePad : List Byte
  floorPad : List Byte
  unreadFloor : Byte
  unreadFrom : List Byte
  unreadUntil : List Byte
  unreadBudget : Byte

/-- The presence and assist byte of PUT CREDENTIAL (R193). -/
def presence (c : Credential) : Byte :=
  byte1 (c.defaultFloor.isSome.toNat + 2 * c.validFrom.isSome.toNat + 4 * c.validUntil.isSome.toNat
    + 8 * c.budget.isSome.toNat + 16 * c.assist.toNat)

/-- The credential form of 28 bytes (R193). -/
def credential (v : CredentialValues) : List Byte :=
  key v.credential.key
    ++ [byte1 v.credential.state.code, byte1 v.credential.holder.code, presence v.credential]
    ++ byte1 v.credential.profiles.length :: v.credential.profiles.map (fun p => byte1 p) ++ v.profilePad
    ++ byte1 v.credential.personal.length :: v.credential.personal.map byte1 ++ v.floorPad
    ++ [(v.credential.defaultFloor.map byte1).getD v.unreadFloor]
    ++ (v.credential.validFrom.map (be 4)).getD v.unreadFrom
    ++ (v.credential.validUntil.map (be 4)).getD v.unreadUntil
    ++ [(v.credential.budget.map byte1).getD v.unreadBudget]

/-- The checks of R14 on a record, with the ranges of the form's bytes. -/
structure CredentialFits (c : Credential) : Prop where
  site : c.key.site ≤ 1023
  card : c.key.card ≤ 1048575
  state : c.state = .active ∨ c.state = .suspended
  profiles : 1 ≤ c.profiles.length ∧ c.profiles.length ≤ 4 ∧ c.profiles.Nodup
  personal : c.personal.length ≤ 4 ∧ c.personal.Nodup ∧ ∀ f ∈ c.personal, f ≤ 159
  defaultFloor : ∀ f, c.defaultFloor = some f → f ≤ 159
  validFrom : ∀ m, c.validFrom = some m → m ≤ 94371839
  validUntil : ∀ m, c.validUntil = some m → m ≤ 94371839
  bounds : ∀ a b, c.validFrom = some a → c.validUntil = some b → a < b
  budget : ∀ n, c.budget = some n → 1 ≤ n ∧ n ≤ 255

/-- A credential form that R14 and R194 accept: 28 bytes of a fitting record. -/
structure CredentialForm (v : CredentialValues) : Prop where
  fits : CredentialFits v.credential
  profilePad : v.profilePad.length + v.credential.profiles.length = 4
  floorPad : v.floorPad.length + v.credential.personal.length = 4
  unreadFrom : v.unreadFrom.length = 4
  unreadUntil : v.unreadUntil.length = 4

/-- A key in the ranges of R1. -/
def keyFits (k : Key) : Prop := k.site ≤ 1023 ∧ k.card ≤ 1048575

/-- SET STATE: a key, and whether ACTIVE is named, else SUSPENDED (R20). -/
def setState (v : Key × Bool) : List Byte := key v.1 ++ [if v.2 then 1 else 2]

/-- REPLENISH: a key and a count, or unlimited, whose count byte is not read (R21). -/
inductive Budget where
  | count (n : Nat)
  | unlimited (unread : Byte)

def replenish (v : Key × Budget) : List Byte :=
  key v.1
    ++ (match v.2 with
        | .count n => [1, byte1 n]
        | .unlimited unread => [0, unread])

/-- The budget REPLENISH gives (R21). -/
def Budget.given : Budget → Option Nat
  | .count n => some n
  | .unlimited _ => none

/-- READ SLOT (R24). -/
def slot (v : Bucket × Way) : List Byte := be 2 v.1 ++ [byte1 v.2]

end Sys2Proof.Args

namespace Sys2Proof.Machine

/-! ## The life of a maintenance command (R170 to R174) -/

/-- The port takes a transaction: the part is not in reset, and chip select fell after the last reset had ended (R181). -/
def State.Hears (s : State) (fell : Fall) : Prop := s.inReset = false ∧ fell ≠ .beforeReset

/-- A good COMMAND frame is taken: the port takes the transaction and the engine is IDLE or DONE (R172, R181). -/
def State.Ready (s : State) (fell : Fall) : Prop := s.Hears fell ∧ s.port.engine ≠ .working

/-- The state after the taking of a command of `n` argument bytes, before its effect: the status byte and fill bytes clocked
out, the outcome TAKEN, the reset indication and the buffer cleared, COMMAND_DONE clear (R170, R172, R174, R177). That the bytes
clocked out are recorded, and that a row says how the fall of chip select found the part, is the model's choice
(notes/assumptions/4.md, 13.md). -/
def State.taken (s : State) (fell : Fall) (n : Nat) : State :=
  { s with
    port :=
      { engine := .idle, outcome := .taken, indication := .none, buffer := none,
        out := s.statusByte fell :: List.replicate (n + 3) 0 }
    attention := { s.attention with pending := s.attention.pending &&& 191#8 } }

/-- The end of a command: DONE, the result in the buffer, COMMAND_DONE raised (R173). -/
def State.ended (s : State) (code : ResultCode) (bytes : List Byte) : State :=
  { s with
    port := { s.port with engine := .done, buffer := some { code := code, bytes := bytes } }
    attention := { s.attention with pending := s.attention.pending ||| 64#8 } }

/-- A store command that passed its check: WORKING, its first phase waiting in the bank of bucket `b` (R13, R28). -/
def State.phaseQueued (s : State) (b : Bucket) (c : StoreCommand) (p : Phase) : State :=
  { s with
    banks := s.banks.set (bankOf b)
      { s.banks[bankOf b] with
        upkeep := s.banks[bankOf b].upkeep ++ [{ bucket := b, command := c, phase := p }] } }

/-- A command whose argument frames are written from values, and which ends at once: for values that meet `valid` it answers a
next state, `effect` of the values on the state after the taking; every other argument frame ends BAD_ARG and writes nothing
(R172, R173, R192). -/
def EndsAtOnce {α : Type} (make : Fall → List Byte → Instr) (write : α → List Byte) (valid : α → Prop)
    (effect : α → State → State) : Prop :=
  ∀ (fell : Fall) (s : State), s.Ready fell →
    (∀ v, valid v → exec (make fell (write v)) s = .next (effect v (s.taken fell (write v).length)))
      ∧ ∀ args, (∀ v, valid v → args ≠ write v) →
          exec (make fell args) s = .next ((s.taken fell args.length).ended .badArg [])

/-- A store command (R13): for values that meet `valid` its first phase waits on the bucket given and the engine is WORKING;
every other argument frame ends BAD_ARG and queues no turn. Taken in DONE it leaves DONE, which in PULSE mode releases ATTN
where the enabled COMMAND_DONE was pending and another enabled source still is (R180). -/
def QueuesPhase {α : Type} (make : Fall → List Byte → Instr) (write : α → List Byte) (valid : α → Prop)
    (command : α → StoreCommand) (bucket : α → Bucket) : Prop :=
  ∀ (fell : Fall) (s : State), s.Ready fell →
    (∀ v, valid v →
      let t := s.taken fell (write v).length
      exec (make fell (write v)) s
        = .next ({ t with
            port := { t.port with engine := .working }
            attention := { t.attention with
              release :=
                if s.attention.mode = AttnMode.pulse ∧ s.attention.pending &&& s.attention.enables &&& 64#8 ≠ 0
                    ∧ t.attention.pending &&& t.attention.enables ≠ 0 then 2
                else t.attention.release } }.phaseQueued (bucket v) (command v) .first))
      ∧ ∀ args, (∀ v, valid v → args ≠ write v) →
          exec (make fell args) s = .next ((s.taken fell args.length).ended .badArg [])

/-- The arguments of a command that comes as a good COMMAND frame (R171); none for every other event. -/
def commandArgs (i : Instr) : Option (List Byte) :=
  match i with
  | .putCredential _ args | .getCredential _ args | .dropCredential _ args | .setState _ args | .replenish _ args
  | .readSlot _ args | .putProfile _ args | .getProfile _ args | .setFloor _ args | .setGroup _ args | .setZone _ args
  | .setTransfer _ args | .commitMap _ args | .discardMap _ args | .readMap _ args | .setLobby _ args | .setDrop _ args
  | .barDrop _ args | .unbarDrop _ args | .setLink _ args | .watch _ args | .readWatch _ args | .setPattern _ args
  | .readPattern _ args | .setClock _ args | .setTickSource _ args | .putHolidays _ args | .setSites _ args
  | .setMode _ args | .setClosures _ args | .setTimers _ args | .sweepNow _ args | .readStatus _ args
  | .setAttention _ args | .clearAttention _ args | .restart _ args | .unknownCommand _ _ args => some args
  | .coldReset _ | .warmReset | .resetEnd | .tickEdge | .internalTick | .clockEnd | .tripExpiry | .emgAssert | .emgRelease
  | .frameError _ _ | .response _ _ | .bankTurn _ | .sweepIntervalExpiry | .poll _ | .pollAnswer _ _
  | .pollAnswerTimeout _ | .assign _ _ | .decline _ _ | .groupState _ _ | .linkAnswer | .dispatchBadFrame _
  | .dispatchFrameGap | .frameTransmit | .frameSent | .offerExpiry _ | .linkCheckTimer | .attnPulseEnd
  | .frameBegins => none

/-! ## The turn of a bank (R30 to R32) -/

/-- The pattern that holds at a bank's next turn (R30). -/
def Bank.current (b : Bank) : Pattern := if b.position = 0 then b.staged.getD b.pattern else b.pattern

/-- The class at a bank's position in its next turn (R30). -/
def Bank.due (b : Bank) : TurnClass := b.current[b.position]

/-- The bank's next turn serves the LOOKUP request `q` (R31). -/
def State.servesLookup (s : State) (n : Fin 4) (q : LookupRequest) : Prop :=
  s.inReset = false ∧ s.banks[n].due = .lookup ∧ s.banks[n].lookup.head? = some q

/-- The bank's next turn serves the UPKEEP request `q`, at an UPKEEP position or at a SWEEP position that is lent (R31, R32). -/
def State.servesUpkeep (s : State) (n : Fin 4) (q : UpkeepRequest) : Prop :=
  s.inReset = false ∧ s.banks[n].upkeep.head? = some q
    ∧ (s.banks[n].due = .upkeep
        ∨ (s.banks[n].due = .sweep ∧ s.banks[n].sweep = [] ∧ s.sweeper.state = .idle))

/-- The bank's next turn serves the SWEEP request for bucket `b` (R32). -/
def State.servesSweep (s : State) (n : Fin 4) (b : Bucket) : Prop :=
  s.inReset = false ∧ s.banks[n].due = .sweep ∧ s.banks[n].sweep.head? = some b

/-- The bank's next turn passes unused (R31, R32). -/
def State.unused (s : State) (n : Fin 4) : Prop :=
  s.inReset = false ∧ (∀ q, ¬ s.servesLookup n q) ∧ (∀ q, ¬ s.servesUpkeep n q) ∧ ∀ b, ¬ s.servesSweep n b

/-- The state in which a turn of bank `n` acts: its pattern changed at position 0, its position advanced, and the served
request gone from the head of the queue of class `k` (R30); an unused turn has class IDLE. -/
def State.turned (s : State) (n : Fin 4) (k : TurnClass) : State :=
  { s with
    banks := s.banks.set n
      { pattern := s.banks[n].current
        staged := if s.banks[n].position = 0 then none else s.banks[n].staged
        position := s.banks[n].position + 1
        lookup := if k = .lookup then s.banks[n].lookup.tail else s.banks[n].lookup
        upkeep := if k = .upkeep then s.banks[n].upkeep.tail else s.banks[n].upkeep
        sweep := if k = .sweep then s.banks[n].sweep.tail else s.banks[n].sweep } }

/-! ## Records (R1 to R18) -/

/-- Whether every slot but one is as it was. -/
def Store.SameBut (st st' : Store) (b : Bucket) (w : Way) : Prop :=
  ∀ b' w', (b', w') ≠ (b, w) → st'.slot b' w' = st.slot b' w'

/-- What PUT CREDENTIAL stores at a turn of site minute `now`, with the edition it takes and the last use it keeps (R18). -/
structure Credential.StoredAs (c : Credential) (now edition : Nat) (lastUse : Option LastUse) (r : Record) : Prop where
  key : r.key = c.key
  holder : r.holder = c.holder
  profiles : r.profiles = c.profiles
  personal : r.personal = c.personal
  defaultFloor : r.defaultFloor = c.defaultFloor
  validFrom : r.validFrom = c.validFrom
  validUntil : r.validUntil = c.validUntil
  budget : r.budget = c.budget
  assist : r.assist = c.assist
  lastUse : r.lastUse = lastUse
  edition : r.edition = edition
  lapsed : ∀ u, c.validUntil = some u → u ≤ now → r.state = .lapsed ∧ r.since = u
  standing : (∀ u, c.validUntil = some u → now < u) → r.state = c.state ∧ r.since = now

/-- A record within its validity period (R6). -/
def Record.Within (r : Record) (now : Nat) : Prop :=
  (∀ a, r.validFrom = some a → a ≤ now) ∧ ∀ b, r.validUntil = some b → now < b

/-- The lapse condition (R6). -/
def Record.LapseHolds (r : Record) (now : Nat) : Prop := ∃ u, r.validUntil = some u ∧ u ≤ now

/-- A turn that writes the record `r` into one occupied slot and ends its command: no other slot changes, the occupancy stays,
the edition counter is `edition` (R9, R12). -/
def State.RewritesAndEnds (u : State) (b : Bucket) (w : Way) (r : Record) (edition : Nat) (code : ResultCode)
    (bytes : List Byte) (t : State) : Prop :=
  t.store.slot b w = some r ∧ u.store.SameBut t.store b w ∧ t.store.occupancy = u.store.occupancy
    ∧ t.store.edition = edition ∧ t = { u.ended code bytes with store := t.store }

/-- A turn that places the record `r` in a FREE way and ends OK_NEW: occupancy 1 more, NEAR_FULL raised at or above a non-zero
mark (R9, R10, R16). -/
def State.PlacesAndEnds (u : State) (b : Bucket) (w : Way) (r : Record) (edition : Nat) (bytes : List Byte)
    (t : State) : Prop :=
  t.store.slot b w = some r ∧ u.store.SameBut t.store b w ∧ t.store.occupancy = u.store.occupancy + 1
    ∧ t.store.edition = edition
    ∧ t.attention.pending
        = (if u.settings.timers.nearFull ≠ 0 ∧ u.settings.timers.nearFull ≤ u.store.occupancy + 1 then
             u.attention.pending ||| 96#8
           else u.attention.pending ||| 64#8)
    ∧ t = { u.ended .okNew bytes with
            store := t.store, attention := { u.attention with pending := t.attention.pending } }

/-- The 40 bytes of the record form, by the offsets of R193, with the codes of R184; unused list bytes and the value bytes of
absent fields are 0 (R194). -/
def Record.bytes (r : Record) : List Byte :=
  let flag (b : Bool) (n : Nat) : Nat := if b then n else 0
  let state : Byte :=
    match r.state with
    | .active => 1
    | .suspended => 2
    | .spent => 3
    | .lapsed => 4
  let holder : Byte :=
    match r.holder with
    | .staff => 0
    | .visitor => 1
    | .contractor => 2
    | .service => 3
  be 2 r.key.site ++ be 3 r.key.card ++ [state, holder]
    ++ [byte1 (flag r.defaultFloor.isSome 1 + flag r.validFrom.isSome 2 + flag r.validUntil.isSome 4
          + flag r.budget.isSome 8 + flag r.assist 16 + flag r.lastUse.isSome 32)]
    ++ [byte1 r.profiles.length] ++ (r.profiles.map (fun p => byte1 p) ++ [0, 0, 0, 0]).take 4
    ++ [byte1 r.personal.length] ++ (r.personal.map (fun f => byte1 f) ++ [0, 0, 0, 0]).take 4
    ++ [byte1 (r.defaultFloor.getD 0)] ++ be 4 (r.validFrom.getD 0) ++ be 4 (r.validUntil.getD 0)
    ++ [byte1 (r.budget.getD 0)] ++ be 4 r.since ++ be 2 r.edition
    ++ [byte1 ((r.lastUse.map LastUse.floor).getD 0)] ++ be 5 ((r.lastUse.map LastUse.second).getD 0)

/-- Bucket, way, edition and record state, 6 bytes (R195). -/
def writtenBytes (b : Bucket) (w : Way) (edition : Nat) (st : RecordState) : List Byte :=
  be 2 b ++ [byte1 w] ++ be 2 edition ++ [byte1 st.code]

/-- The trip report of a key, 6 bytes: 0 throughout where no trip is held (R150, R195). -/
def State.tripBytes (s : State) (k : Key) : List Byte :=
  match s.tripOf k with
  | some t => [1, byte1 t.transfer, byte1 t.finalFloor, byte1 t.group] ++ be 2 t.remaining
  | none => [0, 0, 0, 0, 0, 0]

/-- The request of entry `e` is answered and the entry freed: the reply goes to the transaction that holds the entry's number,
or nowhere (R94, R120). -/
def State.answered (u : State) (e : Fin 64) (en : Entry) (c : ReplyCode) : State :=
  { u with links := (u.post e en (.plain c)).links, entries := u.entries.set e none }

/-- A reversal of entry `e` joins the LOOKUP queue of the found bucket's bank and the entry is REVERSING (R98). -/
def State.reversing (u : State) (e : Fin 64) (en : Entry) (f : Found) : State :=
  { u with
    entries := u.entries.set e (some { en with state := .reversing })
    banks := u.banks.set (bankOf f.bucket)
      { u.banks[bankOf f.bucket] with
        lookup := u.banks[bankOf f.bucket].lookup ++ [{ bucket := f.bucket, entry := e, kind := .reversal }] } }

/-- A pass begins (R163). -/
def State.passStarted (u : State) : State :=
  { u with
    sweeper := { u.sweeper with state := .passing, pointer := 0, passLapsed := 0, passRetired := 0 }
    banks := u.banks.set 0 { u.banks[(0 : Fin 4)] with sweep := u.banks[(0 : Fin 4)].sweep ++ [0] } }

/-- Whether the sweep turn lapses what a way holds (R165). -/
def sweepLapses (now : Nat) : Option Record → Bool
  | some r => (r.state == .active || r.state == .suspended) && r.lapses now
  | none => false

/-- Whether the sweep turn retires what a way holds (R165). -/
def sweepRetires (now grace : Nat) : Option Record → Bool
  | some r => (r.state == .spent || r.state == .lapsed) && decide (r.since + grace ≤ now)
  | none => false

/-! ## The dispatch link (R132 to R143) -/

/-- Whether an OFFERED entry holds a tag (R138). -/
def State.Held (s : State) (tag : Byte) : Prop :=
  ∃ (e : Fin 64) (en : Entry) (d : Nat) (x : Bool), s.entries[e] = some en ∧ en.state = .offered tag d x

/-- Entry `e`'s offer is outstanding under a tag: OFFERED, its OFFER completely sent (R139). -/
def State.Outstanding (s : State) (tag : Byte) (e : Fin 64) (en : Entry) : Prop :=
  s.entries[e] = some en ∧ ∃ d, en.state = .offered tag d true

/-- The notices of a re-announcement: each lobby that is not VACANT, ascending, with its state and policy (R137). -/
def State.notices (s : State) : List TxFrame :=
  (List.finRange 16).filterMap fun n =>
    if s.service[n] = .vacant then none else some (.notice n s.service[n] s.lobbies[n].policy)

/-- The state after the liveness step of a good frame (R132, R134, R137, R190). -/
def State.heard (s : State) : State :=
  if s.dispatch.state = .active then
    { s with dispatch := { s.dispatch with timeouts := 0, receiver := .outside } }
  else
    { s with
      dispatch := { s.dispatch with
        state := .active, timeouts := 0, receiver := .outside, checkTimer := none, owed := false,
        queue := s.dispatch.queue.filter (fun f => !f.isNotice) ++ s.notices }
      attention := { s.attention with pending := s.attention.pending ||| 8#8 } }

/-- A frame in transmission whose offer of entry `e` has expired belongs to no entry (R142). -/
def TxFrame.orphaned (e : Fin 64) : TxFrame → TxFrame
  | .offer owner x => .offer (if owner = some e then none else owner) x
  | .notice lobby service policy => .notice lobby service policy
  | .linkCheck => .linkCheck

/-- The first failing item of the commit check, by kind code and index (R63, R184). -/
def FloorMap.Fails (m : FloorMap) (kind index : Nat) : Prop :=
  (kind = 1 ∧ index < 160 ∧ ∃ z, m.zoneOf index = some z
      ∧ ∀ g, m.zoneTable[z].localGroup = some g → m.serves g index = false)
    ∨ (kind = 2 ∧ ∃ (z : Fin 8) (g : Fin 12) (f : Nat), index = z.val ∧ m.zoneTable[z].standby = some g ∧ f < 160
        ∧ m.zoneOf f = some z ∧ m.serves g f = false)
    ∨ (kind = 3 ∧ ∃ (i : Fin 64) (t : Transfer), index = i.val ∧ m.transfers[i] = some t
        ∧ (m.zoneOf t.floor = none ∨ (∃ a : Fin 8, a.val = i.val / 8 ∧ m.zoneOf t.floor = some a)
            ∨ m.serves t.group t.floor = false))
    ∨ (kind = 4 ∧ m.count ≤ index ∧ index < 160 ∧ m.zoneOf index ≠ none)

/-! ## Supervision of a drop (R112 to R114) -/

/-- The block judgement at the 64th counted outcome (R114). -/
def judged (st : DropState) (failed : Nat) : DropState :=
  if st = .online ∧ 9 ≤ failed then .degraded else if st = .degraded ∧ failed ≤ 2 then .online else st

/-- A poll outcome counted in the block of a drop that stays ONLINE or DEGRADED (R114): `x` has its consecutive counts
updated. -/
def Drop.Counted (x y : Drop) (failed : Nat) : Prop :=
  if x.blockPolls + 1 = 64 then
    y = { x with state := judged x.state (x.blockFailed + failed), blockPolls := 0, blockFailed := 0 }
  else y = { x with blockPolls := x.blockPolls + 1, blockFailed := x.blockFailed + failed }

/-! ## Ticks (R40 to R42, R151, R152) -/

/-- The readings of the clock lie in their ranges (R45). -/
def Clock.InRange (c : Clock) : Prop := c.day ≤ 65535 ∧ c.weekday ≤ 6 ∧ c.minute ≤ 1439 ∧ c.second ≤ 59

/-- The clock after a tick (R41, R42): one second on, with every carry, or ENDED at its last second. -/
def Clock.Ticked (c c' : Clock) : Prop :=
  c'.source = c.source
    ∧ (c.state = .running ∧ c.siteSecond < 5662310399 →
        c'.state = .running ∧ c'.InRange ∧ c'.siteSecond = c.siteSecond + 1
          ∧ c'.weekday = if c.minute = 1439 ∧ c.second = 59 then (c.weekday + 1) % 7 else c.weekday)
    ∧ (c.state = .running ∧ c.siteSecond = 5662310399 →
        c'.state = .ended ∧ c'.day = c.day ∧ c'.weekday = c.weekday ∧ c'.minute = c.minute ∧ c'.second = c.second)
    ∧ (c.state ≠ .running →
        c'.state = c.state ∧ c'.day = c.day ∧ c'.weekday = c.weekday ∧ c'.minute = c.minute ∧ c'.second = c.second)

/-- A tick of the selected source (R40): the clock advances, the divider starts again where the source is INTERNAL, CLOCK_END is
raised at the last second, the open trips count while EMG is released, and nothing else changes. -/
def State.Ticked (s t : State) : Prop :=
  s.clock.Ticked t.clock
    ∧ t.clock.divider = (if s.clock.source = .internal then 0 else s.clock.divider)
    ∧ t.trips
        = (if s.emg then s.trips
           else (s.trips.filter fun x => x.remaining != 1).map fun x => { x with remaining := x.remaining - 1 })
    ∧ t.attention
        = (if s.clock.state = .running ∧ s.clock.siteSecond = 5662310399 then
             { s.attention with pending := s.attention.pending ||| 128#8 }
           else s.attention)
    ∧ t = { s with clock := t.clock, trips := t.trips, attention := t.attention }

/-! ## Invariants that every step keeps -/

/-- The clock's readings stay in their ranges, and an ENDED clock holds its last second (R39, R42, R45). -/
def State.ClockKept (s : State) : Prop :=
  s.clock.InRange ∧ (s.clock.state = .ended → s.clock.day = 65535 ∧ s.clock.minute = 1439 ∧ s.clock.second = 59)
    ∧ (s.clock.state = .unset → s.clock.siteSecond = 0)

/-- The store's table keeps its canonical form within the 16,384 slots, and the occupancy count is the number of occupied slots
(R9). -/
def State.StoreKept (s : State) : Prop :=
  Table.wf 16384 s.store.slots ∧ s.store.occupancy = s.store.slots.length

/-- A record's budget is 0 exactly when it is SPENT (R8), and a LAPSED record's state since is its valid until (R7). -/
def Record.Lawful (r : Record) : Prop :=
  (r.budget = some 0 ↔ r.state = .spent) ∧ (r.state = .lapsed → r.validUntil = some r.since)

/-- The values of a waiting store command as R13's check passed them. -/
def StoreCommand.Checked : StoreCommand → Prop
  | .put c => c.valid = true
  | .replenish _ count => count ≠ some 0
  | .get _ => True
  | .drop _ => True
  | .setState _ _ => True
  | .readSlot _ _ => True

/-- Every record is lawful, and every waiting store command has passed its check (R7, R8, R13). -/
def State.RecordsKept (s : State) : Prop :=
  (∀ x ∈ s.store.slots, x.2.Lawful) ∧ ∀ b ∈ s.banks.toList, ∀ q ∈ b.upkeep, q.command.Checked

/-- All UPKEEP requests that wait in the four banks. -/
def State.upkeepWaiting (s : State) : List UpkeepRequest := s.banks.toList.flatMap Bank.upkeep

/-- Whether no way of a bucket holds a key. -/
def State.absent (s : State) (b : Bucket) (k : Key) : Prop := ∀ w r, s.store.slot b w = some r → r.key ≠ k

/-- A waiting phase stands on the bucket of its command, and a later phase of a PUT knows the buckets searched before it to be
without the key (R15 to R17, R22). -/
def State.PhaseFits (s : State) (q : UpkeepRequest) : Prop :=
  match q.command, q.phase with
  | .put c, .first => q.bucket = c.key.alternate
  | .put c, .second => q.bucket = c.key.home ∧ s.absent c.key.alternate c.key
  | .put c, .third => q.bucket = c.key.alternate ∧ s.absent c.key.home c.key ∧ s.absent c.key.alternate c.key
  | _, _ => True

/-- A key occupies at most one slot, in its home or its alternate bucket (R2, R3); at most one phase waits, and only while the
engine is WORKING (R13, R28). -/
def State.KeysKept (s : State) : Prop :=
  (∀ b w r, s.store.slot b w = some r → b = r.key.home ∨ b = r.key.alternate)
    ∧ (∀ b w r b' w' r', s.store.slot b w = some r → s.store.slot b' w' = some r' → r.key = r'.key → (b, w) = (b', w'))
    ∧ s.upkeepWaiting.length = (if s.port.engine = .working then 1 else 0)
    ∧ (∀ q ∈ s.upkeepWaiting, s.PhaseFits q)
    ∧ Table.wf 16384 s.store.slots

/-- The Trip Table (R148): at most 256 trips, at most one per key, remaining times 1..1,800, transfer and final floor different;
the trip lifetime lies in its range (R79), and a route that needs a trip ends short of its final floor (R68). -/
def State.TripsKept (s : State) : Prop :=
  s.trips.length ≤ 256 ∧ (s.trips.map Trip.key).Nodup
    ∧ (∀ t ∈ s.trips, 1 ≤ t.remaining ∧ t.remaining ≤ 1800 ∧ t.transfer ≠ t.finalFloor)
    ∧ 30 ≤ s.settings.timers.tripLifetime ∧ s.settings.timers.tripLifetime ≤ 1800
    ∧ ∀ (e : Fin 64) (en : Entry) (g : Grant), s.entries[e] = some en → en.grant = some g → g.route.tripNeeded = true →
        g.route.target ≠ g.route.finalFloor

/-- The live map passes the commit check (R58, R63), and every bank's current and staged patterns are valid (R26, R34). -/
def State.MapsKept (s : State) : Prop :=
  s.live.firstFault = none
    ∧ ∀ b ∈ s.banks.toList, Pattern.valid b.pattern = true ∧ ∀ p, b.staged = some p → Pattern.valid p = true

/-- Every lobby's service state is the one the drop records give it (R123). -/
def State.ServiceKept (s : State) : Prop := ∀ n : Fin 16, s.service[n] = s.serviceOf n

/-- No two OFFERED entries carry the same tag (R75, R138). -/
def State.TagsKept (s : State) : Prop :=
  ∀ (e e' : Fin 64) en en' t d x d' x', s.entries[e] = some en → s.entries[e'] = some en' →
    en.state = .offered t d x → en'.state = .offered t d' x' → e = e'

/-- All LOOKUP requests that wait in the four banks, with their banks. -/
def State.lookupWaiting (s : State) : List (Fin 4 × LookupRequest) :=
  (List.finRange 4).flatMap fun n => s.banks[n].lookup.map fun q => (n, q)

/-- The one LOOKUP request an entry has waiting by its state, with its bank; none in OFFERED (R74). -/
def Entry.waits (e : Fin 64) (en : Entry) : Option (Fin 4 × LookupRequest) :=
  match en.state with
  | .probeHome => some (bankOf en.key.home, { bucket := en.key.home, entry := e, kind := .probe })
  | .probeAlt => some (bankOf en.key.alternate, { bucket := en.key.alternate, entry := e, kind := .probe })
  | .offered _ _ _ => none
  | .reversing => en.found.map fun f => (bankOf f.bucket, { bucket := f.bucket, entry := e, kind := .reversal })

/-- The LOOKUP requests that wait are exactly those the entries wait for, each once (R27, R74); an entry in OFFERED or REVERSING
holds where its record was found and what its decision left (R73). -/
def State.WaitingKept (s : State) : Prop :=
  (∀ e : Fin 64, s.lookupWaiting.filter (fun x => x.2.entry == e)
      = ((s.entries[e]).bind (Entry.waits e)).toList)
    ∧ ∀ (e : Fin 64) en, s.entries[e] = some en → en.state ≠ .probeHome → en.state ≠ .probeAlt →
        en.found.isSome = true ∧ en.grant.isSome = true

/-- The transmit queue holds at most 32 LOBBY NOTICEs and at most one LINK CHECK (R129, R133). -/
def State.QueueKept (s : State) : Prop :=
  s.dispatch.queue.countP TxFrame.isNotice ≤ 32 ∧ s.dispatch.queue.count .linkCheck ≤ 1

/-- The values after a cold reset, as far as they do not depend on RESET_N (R25, R37, R46, R49, R56, R67, R72, R79, R104, R127,
R146, R159, R169, R183). -/
structure State.Cold (t : State) : Prop where
  store : t.store.slots = [] ∧ t.store.occupancy = 0 ∧ t.store.edition = 0
  banks : ∀ n : Fin 4, t.banks[n] =
    { pattern := #v[.lookup, .upkeep, .lookup, .sweep, .lookup, .upkeep, .lookup, .idle], staged := none, position := 0,
      lookup := [], upkeep := [], sweep := [] }
  clock : t.clock =
    { state := .unset, day := 0, weekday := 0, minute := 0, second := 0, source := .internal, divider := 0 }
  holidays : t.holidays = []
  profiles : ∀ n : Fin 256, t.profiles[n] = { floors := [], windows := [] }
  maps : t.live.count = 0 ∧ (∀ f : Fin 160, t.live.zones[f] = none) ∧ (∀ g : Fin 12, t.live.served[g] = [])
    ∧ (∀ z : Fin 8, t.live.zoneTable[z] = { localGroup := none, standby := none })
    ∧ (∀ i : Fin 64, t.live.transfers[i] = none) ∧ t.staged = t.live
  lobbies : ∀ n : Fin 16, t.lobbies[n] = { origin := 0, window := 0, policy := .shut }
  entries : ∀ e : Fin 64, t.entries[e] = none
  settings : t.settings =
    { sites := [], mode := .normal, admitSet := 15, closures := [],
      timers :=
        { offerTimeout := 1500, tripLifetime := 300, retireGrace := 1440, sweepInterval := 15, nearFull := 15000 } }
  links : ∀ l : Fin 4, t.links[l].settings = { enabled := false, granularity := .power, divisor := 0, limit := 4 }
    ∧ t.links[l].poll = none
  drops : ∀ (l : Fin 4) (d : Fin 28), t.links[l].drops[d] =
    { lobby := 0, state := .disabled, mode := .serve, good := 0, failed := 0, blockPolls := 0, blockFailed := 0,
      transaction := none, side := none }
  service : ∀ n : Fin 16, t.service[n] = .vacant
  watch : t.watch = { selection := none, record := none, count := 0 }
  dispatch : t.dispatch.state = .silent ∧ t.dispatch.timeouts = 3 ∧ t.dispatch.tagCounter = 0 ∧ t.dispatch.sending = none
    ∧ t.dispatch.owed = false ∧ (∀ g : Fin 12, t.dispatch.groups[g] = .inService) ∧ t.dispatch.frameErrors = 0
    ∧ t.dispatch.staleAnswers = 0 ∧ t.dispatch.receiver = .outside
  trips : t.trips = []
  sweeper : t.sweeper =
    { state := .idle, pointer := 0, timer := some 900000, passLapsed := 0, passRetired := 0, lastLapsed := 0,
      lastRetired := 0 }
  port : t.port.engine = .idle ∧ t.port.outcome = .none ∧ t.port.indication = .cold ∧ t.port.buffer = none
  attention : t.attention.pending = 0 ∧ t.attention.enables = 0 ∧ t.attention.mode = .level ∧ t.attn = false

end Sys2Proof.Machine
end

