-- ==== Sys2Proof/Certificates/Slice0/Obligations.lean ====
section
/-! DEFINITION. The statements about the model, one `Obligations.<Name>` each; OBLIGATIONS.json says which rule each one states
or rests on. -/

open Sys2Proof Machine

/-! ## Steps and resets -/

/-- A step takes the command at the front of the queue and is its `exec` on the queue's rest. While none waits, one millisecond of
the internal reference passes and the queue holds exactly the rows that are then due, in a fixed order: the model's choice
(notes/assumptions/1.md). -/
def Obligations.StepTakesTheFrontCommand : Prop :=
  (∀ (c : Instr) (s : State) (rest : List Instr), s.pending = c :: rest → step s = exec c { s with pending := rest })
    ∧ (∀ s : State, s.pending = [] → s.inReset = true → step s = .next s)
    ∧ ∀ s : State, s.pending = [] → s.inReset = false → ∃ t, step s = .next t
        ∧ t = { s with
            reference := s.reference + 1
            clock := { s.clock with
              divider := if s.clock.source = .internal then s.clock.divider + 1 else s.clock.divider }
            sweeper := { s.sweeper with timer := s.sweeper.timer.map fun n => n - 1 }
            dispatch := { s.dispatch with checkTimer := s.dispatch.checkTimer.map fun n => n - 1 }
            pending := t.pending }
        ∧ ∃ expired : List (Fin 64),
            t.pending
              = (if t.clock.source = .internal ∧ 1000 ≤ t.clock.divider then [.internalTick] else [])
                ++ (if t.sweeper.timer = some 0 then [.sweepIntervalExpiry] else [])
                ++ (if t.dispatch.checkTimer = some 0 then [.linkCheckTimer] else [])
                ++ expired.map .offerExpiry
                ++ (if t.attention.release ≠ 0 then [.attnPulseEnd] else [])
              ∧ expired.Pairwise (· < ·)
              ∧ ∀ e : Fin 64, e ∈ expired ↔
                  ∃ en tag d x, t.entries[e] = some en ∧ en.state = .offered tag d x ∧ d ≤ t.reference

/-- COLD_RESET leaves every block in its cold state, in reset until RESET_N is high; State.reset is that state after a power-up
that finds RESET_N high. That the level of EMG stays and is released in State.reset, that the reference is 0, that with RESET_N
high the reset ends in the same event, that State.reset is that state, and that the queue of commands is kept, is the model's
choice (notes/assumptions/2.md, 3.md, 5.md). -/
def Obligations.ColdResetLeavesTheColdState : Prop :=
  (∀ (high : Bool) (s : State), ∃ t, exec (.coldReset high) s = .next t ∧ t.Cold ∧ t.inReset = !high
      ∧ t.dispatch.queue = (if high then [.linkCheck] else [])
      ∧ t.dispatch.checkTimer = (if high then some 1000 else none)
      ∧ t.emg = s.emg ∧ t.reference = 0 ∧ t.pending = s.pending)
    ∧ State.reset.Cold ∧ State.reset.inReset = false ∧ State.reset.dispatch.queue = [.linkCheck]
    ∧ State.reset.dispatch.checkTimer = some 1000 ∧ State.reset.emg = false ∧ State.reset.pending = []

/-- WARM_RESET keeps what each block keeps and resets the rest; RESET_END composes the first LINK CHECK and starts the LINK CHECK
timer; RESTART is both in one event, and the bytes its transaction clocked out stand. That the reference and the level of EMG
are kept (notes/assumptions/2.md, 3.md), that a reset empties the record of the bytes clocked out (notes/assumptions/4.md) and
that a RESET_END outside reset is no event (notes/assumptions/6.md) is the model's choice. -/
def Obligations.WarmResetKeepsAndRestartRepeats : Prop :=
  (∀ s : State, s.inReset = false → ∃ t, exec .warmReset s = .next t
      ∧ t = { s with
          banks := t.banks, clock := { s.clock with
            state := .unset, day := 0, weekday := 0, minute := 0, second := 0, divider := 0 },
          staged := s.live, entries := t.entries, links := t.links, service := t.service,
          watch := { s.watch with record := none, count := 0 }, dispatch := t.dispatch, trips := [],
          sweeper := t.sweeper, port := t.port,
          attention := { s.attention with pending := 0, release := 0 }, inReset := true }
      ∧ (∀ n : Fin 4, t.banks[n] =
          { pattern := s.banks[n].pattern, staged := none, position := 0, lookup := [], upkeep := [], sweep := [] })
      ∧ (∀ e : Fin 64, t.entries[e] = none)
      ∧ (∀ l : Fin 4, t.links[l].settings = s.links[l].settings ∧ t.links[l].poll = none ∧ t.links[l].walk = 0
          ∧ ∀ d : Fin 28, t.links[l].drops[d] =
              { lobby := s.links[l].drops[d].lobby
                state := if s.links[l].drops[d].state = .disabled then .disabled else .seeking
                mode := s.links[l].drops[d].mode
                good := 0, failed := 0, blockPolls := 0, blockFailed := 0, transaction := none, side := none })
      ∧ (∀ n : Fin 16,
          ((∃ l d, (s.drop l d).lobby = n ∧ (s.drop l d).state ≠ .disabled) → t.service[n] = .unserved)
            ∧ ((∀ l d, (s.drop l d).lobby = n → (s.drop l d).state = .disabled) → t.service[n] = .vacant))
      ∧ t.dispatch =
          { state := .silent, timeouts := 3, tagCounter := 0, queue := [], sending := none, owed := false,
            checkTimer := none, groups := t.dispatch.groups, frameErrors := 0, staleAnswers := 0, receiver := .outside }
      ∧ (∀ g : Fin 12, t.dispatch.groups[g] = .inService)
      ∧ t.sweeper =
          { state := .idle, pointer := 0
            timer :=
              if s.settings.timers.sweepInterval = 0 then none else some (s.settings.timers.sweepInterval * 60000)
            passLapsed := 0, passRetired := 0, lastLapsed := 0, lastRetired := 0 }
      ∧ t.port = { engine := .idle, outcome := .none, indication := .warm, buffer := none, out := [] })
    ∧ (∀ s : State, exec .resetEnd s
        = .next
            (if s.inReset then
              { s with
                inReset := false
                dispatch := { s.dispatch with
                  checkTimer := some 1000
                  queue :=
                    if .linkCheck ∈ s.dispatch.queue then s.dispatch.queue else s.dispatch.queue ++ [.linkCheck] } }
            else s))
    ∧ ∀ (fell : Fall) (s : State), s.Ready fell →
        (∃ u t, exec .warmReset s = .next u ∧ exec .resetEnd u = .next t
            ∧ exec (.restart fell []) s = .next { t with port := { t.port with out := [s.statusByte fell, 0, 0, 0] } })
          ∧ ∀ args, args ≠ [] → exec (.restart fell args) s = .next ((s.taken fell args.length).ended .badArg [])

/-- While the part is in reset no row changes anything but the power-up, the rise of RESET_N and, by the model's choice
(notes/assumptions/3.md), the level of EMG; ATTN is released. A transaction whose chip select fell before the end of the last
reset is abandoned whole, also where it ends after the reset; that a row carries the mark for it is the model's choice (notes/assumptions/13.md). -/
def Obligations.ResetHoldsThePart : Prop :=
  (∀ (i : Instr) (s : State), WellFormed i = true → commandFell i = .beforeReset → exec i s = .next s)
  ∧ ∀ s : State, s.inReset = true →
    s.attn = false
      ∧ exec .emgAssert s = .next { s with emg := true } ∧ exec .emgRelease s = .next { s with emg := false }
      ∧ ∀ i : Instr, WellFormed i = true → (∀ high, i ≠ .coldReset high) → i ≠ .resetEnd → i ≠ .emgAssert →
          i ≠ .emgRelease → exec i s = .next s

/-! ## Ticks and the emergency line -/

/-- A tick of the selected source advances a RUNNING clock by one second with all its carries, makes it ENDED at its last second,
counts the trips while EMG is released, and changes nothing else. An edge or a tick of the other source, and the two rows that
name a tick's outcome where that outcome does not fall due, change nothing, and where it does they are whole ticks: read from the
rules by inference (notes/assumptions/6.md, 7.md, 8.md). An internal tick is due where the divider has completed one second. -/
def Obligations.TickAdvancesClockAndTrips : Prop :=
  ∀ s : State, s.inReset = false → s.clock.InRange →
    (s.clock.source = .external → (∃ t, exec .tickEdge s = .next t ∧ s.Ticked t) ∧ exec .internalTick s = .next s)
      ∧ (s.clock.source = .internal →
          (1000 ≤ s.clock.divider → ∃ t, exec .internalTick s = .next t ∧ s.Ticked t)
            ∧ (s.clock.divider < 1000 → exec .internalTick s = .next s)
            ∧ exec .tickEdge s = .next s)
      ∧ (if (s.clock.source = .internal → 1000 ≤ s.clock.divider) ∧ s.clock.state = .running
            ∧ s.clock.siteSecond = 5662310399 then
           ∃ t, exec .clockEnd s = .next t ∧ s.Ticked t
         else exec .clockEnd s = .next s)
      ∧ (if (s.clock.source = .internal → 1000 ≤ s.clock.divider) ∧ s.emg = false
            ∧ ∃ x ∈ s.trips, x.remaining = 1 then
           ∃ t, exec .tripExpiry s = .next t ∧ s.Ticked t
         else exec .tripExpiry s = .next s)

/-- EMG_ASSERT withdraws every waiting probe of an entry in PROBE_HOME or PROBE_ALT, answers that entry HOLD_EMERGENCY and frees
it, and touches nothing else; EMG_RELEASE and a repeated assertion change no more than the level. That EMG_RELEASE writes the level
in reset too, where the edges of EMG are no events, is the model's choice (notes/assumptions/3.md). -/
def Obligations.EmergencyWithdrawsWaitingProbes : Prop :=
  ∀ s : State, exec .emgRelease s = .next { s with emg := false } ∧
    (s.emg = true → exec .emgAssert s = .next s) ∧
    (s.inReset = false → s.emg = false → ∃ t, exec .emgAssert s = .next t ∧
      let held (e : Fin 64) : Prop :=
        (∃ en, s.entries[e] = some en ∧ (en.state = .probeHome ∨ en.state = .probeAlt))
          ∧ ∃ n : Fin 4, ∃ q ∈ s.banks[n].lookup, q.entry = e ∧ q.kind = .probe
      t = { s with emg := true, entries := t.entries, banks := t.banks, links := t.links }
        ∧ (∀ e, held e → t.entries[e] = none) ∧ (∀ e, ¬ held e → t.entries[e] = s.entries[e])
        ∧ (∀ n : Fin 4, t.banks[n] = { s.banks[n] with lookup := t.banks[n].lookup }
            ∧ t.banks[n].lookup.Sublist s.banks[n].lookup
            ∧ ∀ q : LookupRequest, (held q.entry ∧ q.kind = .probe → q ∉ t.banks[n].lookup)
                ∧ (¬ (held q.entry ∧ q.kind = .probe) → t.banks[n].lookup.count q = s.banks[n].lookup.count q))
        ∧ (∀ l : Fin 4, t.links[l] = { s.links[l] with drops := t.links[l].drops })
        ∧ ∀ (l : Fin 4) (d : Fin 28),
            (∀ tr e en, (s.drop l d).transaction = some tr → tr.entry = some e → held e → s.entries[e] = some en →
                en.link = l → en.drop = d →
                t.drop l d = { s.drop l d with
                  transaction := some { tr with reply := some (.plain .holdEmergency) } })
              ∧ ((∀ tr e en, (s.drop l d).transaction = some tr → tr.entry = some e → s.entries[e] = some en →
                    ¬ (held e ∧ en.link = l ∧ en.drop = d)) → t.drop l d = s.drop l d))

/-! ## The maintenance port -/

/-- A transaction whose first byte names neither kind, or whose COMMAND frame has a wrong length or sum, is discarded in every
engine state and writes only the outcome FRAME_ERROR; no whole byte leaves no mark; a taken command whose code names no command
ends UNKNOWN_COMMAND. Bytes that are a good transaction are no FRAME_ERROR: that refusal is the model's
(notes/assumptions/14.md). That the bytes clocked out are recorded, and that fill follows the status byte also where the first
byte names neither kind, and that a row says how the fall of chip select found the part, is the model's choice
(notes/assumptions/4.md, 13.md). -/
def Obligations.DiscardedAndUnknownTransactions : Prop :=
  (∀ (fell : Fall) (s : State), exec (.frameError fell []) s = .next s)
    ∧ (∀ (fell : Fall) (s : State) (kind : Byte) (rest : List Byte), s.Hears fell →
        ((kind ≠ 195 ∧ kind ≠ 60)
          ∨ (kind = 195 ∧ ∀ (code check : Byte) (args : List Byte),
              rest = code :: byte1 args.length :: (args ++ [check]) → args.length ≤ 255 →
                (rest.map BitVec.toNat).sum % 256 ≠ 0)) →
        exec (.frameError fell (kind :: rest)) s
          = .next { s with
              port := { s.port with
                outcome := .frameError, out := s.statusByte fell :: List.replicate rest.length 0 } })
    ∧ ∀ (fell : Fall) (s : State) (code : Byte) (args : List Byte), s.Ready fell →
        code.toNat ∉ [16, 17, 18, 19, 20, 21, 24, 25, 32, 33, 34, 35, 36, 37, 38, 39, 48, 49, 50, 51, 52, 53, 56, 57, 64, 65,
          66, 72, 73, 74, 75, 80, 96, 97, 98, 99] →
        exec (.unknownCommand fell code args) s = .next ((s.taken fell args.length).ended .unknownCommand [])

/-- A RESPONSE clocks out the status byte and, where chip select fell in DONE, code, length and bytes of the result, then fill bytes;
after at least two bytes it consumes the result: buffer empty, IDLE, COMMAND_DONE clear, with a 2 µs release in PULSE mode where
an enabled source stays pending. A RESPONSE whose chip select fell in IDLE or WORKING changes nothing else. The status byte shows
the engine state at the fall in bits 0 and 1, the outcome in bits 2 and 3, the reset indication in bits 4 and 5, and 0 above. That
a row says how the fall of chip select found the part, that the bytes clocked out are recorded, and how the release is held, is
the model's choice (notes/assumptions/13.md, 4.md, 24.md). -/
def Obligations.ResponseConsumesTheResult : Prop :=
  (∀ (fell : Fall) (s : State),
    let b := (s.statusByte fell).toNat
    b % 4 = (match s.port.engine with
        | .idle => 0
        | .working => 1
        | .done => if fell = .working then 1 else 2)
      ∧ b / 4 % 4 = (match s.port.outcome with
        | .none => 0
        | .taken => 1
        | .refusedBusy => 2
        | .frameError => 3)
      ∧ b / 16 % 4 = (match s.port.indication with
        | .none => 0
        | .cold => 1
        | .warm => 2)
      ∧ b < 64)
  ∧ ∀ (fell : Fall) (clocks : Nat) (s : State), s.Hears fell → 0 < clocks →
    (s.port.engine ≠ .done ∨ fell = .working →
      exec (.response fell clocks) s
        = .next { s with port := { s.port with out := s.statusByte fell :: List.replicate (clocks - 1) 0 } })
      ∧ ∀ r, s.port.engine = .done → fell = .same → s.port.buffer = some r →
          let out := (s.statusByte fell :: byte1 r.code.code :: byte1 r.bytes.length :: r.bytes
            ++ List.replicate clocks 0).take clocks
          exec (.response fell clocks) s
            = .next
                (if clocks = 1 then { s with port := { s.port with out := out } }
                 else
                   { s with
                     port := { s.port with engine := .idle, buffer := none, out := out }
                     attention := { s.attention with
                       pending := s.attention.pending &&& 191#8
                       release :=
                         if s.attention.mode = AttnMode.pulse
                             ∧ s.attention.pending &&& s.attention.enables &&& 64#8 ≠ 0
                             ∧ s.attention.pending &&& 191#8 &&& s.attention.enables ≠ 0 then 2
                         else s.attention.release } })

/-- A good COMMAND frame met in WORKING is discarded whatever command it carries: the outcome becomes REFUSED_BUSY, the command in
progress and everything else stay. That a row says how the fall of chip select found the part, and that the bytes clocked out
are recorded, is the model's choice (notes/assumptions/13.md, 4.md). -/
def Obligations.WorkingRefusesEveryCommand : Prop :=
  ∀ (i : Instr) (args : List Byte) (s : State), commandArgs i = some args → WellFormed i = true →
    s.Hears (commandFell i) → s.port.engine = .working →
    exec i s
      = .next { s with
          port := { s.port with
            outcome := .refusedBusy, out := s.statusByte (commandFell i) :: List.replicate (args.length + 3) 0 } }

/-- Reading a maintenance transaction and writing it agree: every well-formed command of the port is read back from its bytes, and
the bytes read as a COMMAND are the only bytes that spell that command. That a row says how the fall of chip select found the part
is the model's choice (notes/assumptions/13.md). -/
def Obligations.PortBytesSpellOneCommand : Prop :=
  (∀ (i : Instr) (bytes : List Byte), WellFormed i = true → encodePort i = some bytes →
      decodePort (commandFell i) bytes = some i)
    ∧ ∀ (fell : Fall) (bytes : List Byte) (i : Instr) (args : List Byte), decodePort fell bytes = some i →
        commandArgs i = some args → encodePort i = some bytes ∧ WellFormed i = true ∧ commandFell i = fell

/-- Reading and writing agree for the frames of the dispatch link, the frames of a drop are read as they are written whatever
bytes follow them, and the frames the part sends are written as the tables of the frames say. That a good answer must begin with
its frame is the model's reading (notes/assumptions/19.md). -/
def Obligations.LinkFramesAreReadBack : Prop :=
  (∀ (i : Instr) (bytes : List Byte), encodeDispatch i = some bytes ↔ readDispatch bytes = some i)
    ∧ (∀ (d : Fin 28) (flags : Byte) (extra : List Byte),
        readAnswer d (frame [byte1 (d.val + 1), 2, 1, flags] ++ extra)
          = some { tamper := flags.getLsbD 0, request := none })
    ∧ (∀ (d : Fin 28) (flags number floor : Byte) (kind : Kind) (site card : Nat) (extra : List Byte), site < 65536 → card < 16777216 →
        readAnswer d
            (frame ([byte1 (d.val + 1), 3, 9, flags, number, byte1 kind.code] ++ be 2 site ++ be 3 card ++ [floor])
              ++ extra)
          = some
              { tamper := flags.getLsbD 0
                request := some
                  { number := number, kind := kind, key := { site := site, card := card },
                    requested := if kind = .destination then some floor.toNat else none,
                    assist := flags.getLsbD 1 } })
    ∧ (∀ (d : Fin 28) (bytes : List Byte) (a : Answer), readAnswer d bytes = some a →
        ∃ covered extra, bytes = frame covered ++ extra ∧ covered.head? = some (byte1 (d.val + 1)))
    ∧ (∀ covered : List Byte,
        let sum (l : List Byte) : Nat := (l.map BitVec.toNat).sum
        frame covered
          = 126 :: covered
            ++ [byte1 (sum covered % 255), byte1 ((covered.inits.map sum).sum % 255)])
    ∧ (∀ (d : Fin 28) (number : Byte),
        pollFrame d .nothing = frame [byte1 (d.val + 1), 1, 1, 0]
          ∧ (∀ c : ReplyCode,
              pollFrame d (.reply (.plain c) number) = frame [byte1 (d.val + 1), 1, 3, 1, byte1 c.code, number])
          ∧ (∀ (g : Fin 12) (car : Fin 16) (target : Nat) (cont : Bool),
              pollFrame d (.reply (.accept g car target cont) number)
                = frame
                    [byte1 (d.val + 1), 1, 7, 1, 0, number, byte1 g, byte1 car, byte1 target, if cont then 1 else 0])
          ∧ ∀ c : ReplyCode, pollFrame d (.side c number) = frame [byte1 (d.val + 1), 1, 3, 2, byte1 c.code, number])
    ∧ (∀ (owner : Option (Fin 64)) (o : Offer),
        dispatchFrame (.offer owner o)
          = frame
              [16, 7, o.tag, byte1 o.group, byte1 o.origin, byte1 o.target, byte1 o.finalFloor,
                if o.assist then 1 else 0, if o.kind = .new then 0 else 1])
    ∧ (∀ (n : Fin 16) (service : Service) (policy : Fallback),
        dispatchFrame (.notice n service policy)
          = frame
              [17, 3, byte1 n,
                match service with
                | .vacant => 0
                | .served => 1
                | .unserved => 2,
                if policy = .shut then 0 else 1])
    ∧ dispatchFrame .linkCheck = frame [18, 0]

/-- R185 remarks that two covered bytes exchanged in place always change check B. -/
def Obligations.ExchangedBytesChangeCheckB : Prop :=
  ∀ (before between after : List Byte) (a b : Byte), a ≠ b →
    (linkCheck (before ++ a :: between ++ b :: after))[1]? ≠ (linkCheck (before ++ b :: between ++ a :: after))[1]?

/-! ## Store commands and bank turns -/

/-- Each of the six store commands is checked whole when it is taken: a passing one makes the engine WORKING and queues its first
phase, PUT CREDENTIAL on the alternate bucket, the searches on the home bucket, READ SLOT on its bucket. -/
def Obligations.StoreCommandsQueueTheirFirstPhase : Prop :=
  QueuesPhase .putCredential Args.credential Args.CredentialForm (fun v => .put v.credential)
      (fun v => v.credential.key.alternate)
    ∧ QueuesPhase .getCredential Args.key Args.keyFits .get Key.home
    ∧ QueuesPhase .dropCredential Args.key Args.keyFits .drop Key.home
    ∧ QueuesPhase .setState Args.setState (fun v => Args.keyFits v.1) (fun v => .setState v.1 v.2) (fun v => v.1.home)
    ∧ QueuesPhase .replenish Args.replenish
        (fun v => Args.keyFits v.1 ∧ ∀ n, v.2 = .count n → 1 ≤ n ∧ n ≤ 255)
        (fun v => .replenish v.1 v.2.given) (fun v => v.1.home)
    ∧ QueuesPhase .readSlot Args.slot (fun _ => True) (fun v => .readSlot v.1 v.2) (fun v => v.1)

/-- One whole turn of a bank: it serves by the class at its position, lends a SWEEP position as R32 says, or passes unused, and
advances its position. -/
def Obligations.BankTurnServesItsPosition : Prop :=
  ∀ (s : State) (n : Fin 4),
    (∀ q, s.servesLookup n q → exec (.bankTurn n) s = .next ((s.turned n .lookup).lookupTurn q))
      ∧ (∀ q, s.servesUpkeep n q → exec (.bankTurn n) s = .next ((s.turned n .upkeep).upkeepTurn q))
      ∧ (∀ b, s.servesSweep n b → exec (.bankTurn n) s = .next ((s.turned n .sweep).sweepTurn b))
      ∧ (s.unused n → exec (.bankTurn n) s = .next (s.turned n .idle))

/-- Home bucket, alternate bucket and bank of a key; a search finds the key exactly where a way of the bucket holds it; a
placement takes the lowest-numbered FREE way. -/
def Obligations.PlacementAndSearch : Prop :=
  (∀ k : Key, k.home.val = (k.card + 331 * k.site) % 4096 ∧ k.alternate.val = (k.home.val + 2049) % 4096
      ∧ (bankOf k.home).val = k.home.val % 4 ∧ (bankOf k.alternate).val = ((bankOf k.home).val + 1) % 4)
    ∧ (∀ (st : Store) (b : Bucket) (k : Key) (w : Way) (r : Record), st.search b k = some (w, r) ↔
        st.slot b w = some r ∧ r.key = k ∧ ∀ w' r', w' < w → st.slot b w' = some r' → r'.key ≠ k)
    ∧ ∀ (st : Store) (b : Bucket) (w : Way), st.freeWay b = some w ↔
        st.slot b w = none ∧ ∀ w', w' < w → st.slot b w' ≠ none

/-- The three phases of PUT CREDENTIAL, each in the turn that serves it: replaced where the key stands, placed in the lowest FREE way
of the home bucket and then of the alternate bucket, or TABLE_FULL. -/
def Obligations.PutPhasesReplaceOrPlace : Prop :=
  ∀ (s : State) (n : Fin 4) (c : Credential) (b : Bucket) (p : Phase),
    s.servesUpkeep n { bucket := b, command := .put c, phase := p } →
    let u := s.turned n .upkeep
    let edition := (s.store.edition + 1) % 65536
    let replaced (w : Way) (old : Record) : Prop := ∃ t r, exec (.bankTurn n) s = .next t
      ∧ c.StoredAs s.clock.siteMinute edition old.lastUse r
      ∧ u.RewritesAndEnds b w r edition .okReplaced (writtenBytes b w edition r.state) t
    let placed (w : Way) : Prop := ∃ t r, exec (.bankTurn n) s = .next t
      ∧ c.StoredAs s.clock.siteMinute edition none r
      ∧ u.PlacesAndEnds b w r edition (writtenBytes b w edition r.state) t
    match p with
    | .first =>
      (∀ w r, s.store.search b c.key = some (w, r) → replaced w r)
        ∧ (s.store.search b c.key = none →
            exec (.bankTurn n) s = .next (u.phaseQueued c.key.home (.put c) .second))
    | .second =>
      (∀ w r, s.store.search b c.key = some (w, r) → replaced w r)
        ∧ (∀ w, s.store.search b c.key = none → s.store.freeWay b = some w → placed w)
        ∧ (s.store.search b c.key = none → s.store.freeWay b = none →
            exec (.bankTurn n) s = .next (u.phaseQueued c.key.alternate (.put c) .third))
    | .third =>
      (∀ w, s.store.freeWay b = some w → placed w)
        ∧ (s.store.freeWay b = none → exec (.bankTurn n) s = .next (u.ended .tableFull []))

/-- The search of GET, DROP, SET STATE and REPLENISH, the find of GET and of DROP, and READ SLOT: home bucket, then alternate bucket,
then NOT_FOUND; DROP frees the way and removes the key's open trip with either result. -/
def Obligations.SearchPhasesFindOrEnd : Prop :=
  ∀ (s : State) (n : Fin 4) (b : Bucket) (p : Phase) (k : Key),
    let u := s.turned n .upkeep
    let noTrip : List Trip := s.trips.filter fun t => t.key != k
    (∀ c, c = .get k ∨ c = .drop k ∨ (∃ a, c = .setState k a) ∨ (∃ m, c = .replenish k m) →
        s.servesUpkeep n { bucket := b, command := c, phase := p } → s.store.search b k = none →
        exec (.bankTurn n) s
          = .next
              (if p = .first then u.phaseQueued k.alternate c .second
               else if c = .drop k then { u with trips := noTrip }.ended .notFound (s.tripBytes k)
               else u.ended .notFound []))
      ∧ (∀ w r, s.servesUpkeep n { bucket := b, command := .get k, phase := p } → s.store.search b k = some (w, r) →
          exec (.bankTurn n) s = .next (u.ended .ok (be 2 b ++ [byte1 w] ++ r.form)))
      ∧ (∀ w r, s.StoreKept → s.servesUpkeep n { bucket := b, command := .drop k, phase := p } →
          s.store.search b k = some (w, r) → ∃ t, exec (.bankTurn n) s = .next t
            ∧ t.store.slot b w = none ∧ s.store.SameBut t.store b w ∧ t.store.occupancy + 1 = s.store.occupancy
            ∧ t.store.edition = s.store.edition
            ∧ t = { u.ended .ok (be 2 b ++ [byte1 w] ++ s.tripBytes k) with store := t.store, trips := noTrip })
      ∧ (∀ w, s.servesUpkeep n { bucket := b, command := .readSlot b w, phase := p } →
          exec (.bankTurn n) s
            = .next (u.ended .ok
                (match s.store.slot b w with
                 | some r => be 2 b ++ [byte1 w] ++ r.form
                 | none => be 2 b ++ [byte1 w, 0])))
      ∧ ∀ r : Record, r.form = r.bytes ∧ r.form.length = 40

/-- SET STATE and REPLENISH in the turn that finds the key, by the state found and the lapse condition: what is written, with a new
edition, and the result; SPENT or LAPSED ends SET STATE, LAPSED ends REPLENISH, with WRONG_STATE. That the result of WRONG_STATE carries no bytes is the model's reading of
the summary's rows (notes/assumptions/12.md). -/
def Obligations.SetStateAndReplenishWrite : Prop :=
  ∀ (s : State) (n : Fin 4) (b : Bucket) (p : Phase) (k : Key) (w : Way) (r : Record),
    s.store.search b k = some (w, r) →
    let u := s.turned n .upkeep
    let now := s.clock.siteMinute
    let edition := (s.store.edition + 1) % 65536
    (∀ active, s.servesUpkeep n { bucket := b, command := .setState k active, phase := p } →
        let named : RecordState := if active then .active else .suspended
        (r.state = .spent ∨ r.state = .lapsed → exec (.bankTurn n) s = .next (u.ended .wrongState []))
          ∧ (r.state = .active ∨ r.state = .suspended →
              (∀ x, r.validUntil = some x → x ≤ now → ∃ t, exec (.bankTurn n) s = .next t
                  ∧ u.RewritesAndEnds b w { r with state := .lapsed, since := x, edition := edition } edition .okLapsed
                      (writtenBytes b w edition .lapsed) t)
                ∧ (¬ r.LapseHolds now → r.state = named →
                    exec (.bankTurn n) s = .next (u.ended .ok (writtenBytes b w r.edition r.state)))
                ∧ (¬ r.LapseHolds now → r.state ≠ named → ∃ t, exec (.bankTurn n) s = .next t
                    ∧ u.RewritesAndEnds b w { r with state := named, since := now, edition := edition } edition .ok
                        (writtenBytes b w edition named) t)))
      ∧ ∀ count, s.servesUpkeep n { bucket := b, command := .replenish k count, phase := p } →
          let bytes (st : RecordState) : List Byte :=
            writtenBytes b w edition st ++ [yesNo count.isSome, byte1 (count.getD 0)]
          (r.state = .lapsed → exec (.bankTurn n) s = .next (u.ended .wrongState []))
            ∧ (r.state ≠ .lapsed →
                (∀ x, r.validUntil = some x → x ≤ now → ∃ t, exec (.bankTurn n) s = .next t
                    ∧ u.RewritesAndEnds b w
                        { r with state := .lapsed, since := x, budget := count, edition := edition } edition .okLapsed
                        (bytes .lapsed) t)
                  ∧ (¬ r.LapseHolds now → r.state = .spent → ∃ t, exec (.bankTurn n) s = .next t
                      ∧ u.RewritesAndEnds b w
                          { r with state := .active, since := now, budget := count, edition := edition } edition .ok
                          (bytes .active) t)
                  ∧ (¬ r.LapseHolds now → r.state ≠ .spent → ∃ t, exec (.bankTurn n) s = .next t
                      ∧ u.RewritesAndEnds b w { r with budget := count, edition := edition } edition .ok
                          (bytes r.state) t))

/-! ## Probes, decisions, reversals, sweep turns -/

/-- A probe that does not find its key: the home probe goes on to the alternate bucket, or is answered HOLD_EMERGENCY while EMG is
asserted; the alternate probe is answered DENY_UNKNOWN. Nothing in the store changes. -/
def Obligations.ProbeWithoutTheKey : Prop :=
  ∀ (s : State) (n : Fin 4) (b : Bucket) (e : Fin 64) (en : Entry),
    s.servesLookup n { bucket := b, entry := e, kind := .probe } → s.entries[e] = some en →
    s.store.search b en.key = none →
    let u := s.turned n .lookup
    let alt := en.key.alternate
    (en.state = .probeHome → s.emg = false →
        exec (.bankTurn n) s
          = .next { u with
              entries := u.entries.set e (some { en with state := .probeAlt })
              banks := u.banks.set (bankOf alt)
                { u.banks[bankOf alt] with
                  lookup := u.banks[bankOf alt].lookup ++ [{ bucket := alt, entry := e, kind := .probe }] } })
      ∧ (en.state = .probeHome → s.emg = true → exec (.bankTurn n) s = .next (u.answered e en .holdEmergency))
      ∧ (en.state = .probeAlt → exec (.bankTurn n) s = .next (u.answered e en .denyUnknown))

/-- The steps of the decision. It grants a journey exactly when the record is ACTIVE and within its validity, the building admits the
holder, the link is ACTIVE, a route is given, and the final floor is that of the open trip continued or a floor the record
may reach now without closure or passback; every refusal is answered exactly where its step's rule says so and the steps before
it have passed. -/
def Obligations.DecisionStepsInOrder : Prop :=
  ∀ (s : State) (en : Entry) (r : Record),
    let admitted : Prop := s.settings.mode = .normal ∨ s.settings.admitSet.getLsbD r.holder.code = true
    let first : Prop := r.state = .active ∧ r.Within s.clock.siteMinute
    let continues (f : Nat) : Prop :=
      en.kind = .arrival ∧ ∃ t, s.tripOf en.key = some t ∧ t.transfer = en.origin ∧ t.finalFloor = f
    let goes (f : Nat) : Prop :=
      (en.kind = .destination ∧ en.requested = some f)
        ∨ (en.kind = .arrival ∧ (∀ t, s.tripOf en.key = some t → t.transfer ≠ en.origin)
            ∧ r.defaultFloor = some f ∧ f ≠ en.origin)
    let closed (f : Nat) : Prop := f ∈ s.settings.closures ∧ r.holder ≠ .service
    let back : Prop := ∃ x, r.lastUse = some x ∧ x.floor = en.origin ∧ x.second ≤ s.clock.siteSecond
      ∧ s.clock.siteSecond - x.second < s.lobbies[en.lobby].window
    let entitled (f : Nat) : Prop := goes f ∧ ¬ closed f ∧ f ∈ s.effectiveFloors r ∧ ¬ back
    (∀ route cont, s.decision en r = .grant route cont ↔
        first ∧ admitted ∧ s.dispatch.state = .active
          ∧ ∃ f, s.live.route s.dispatch.groups en.origin f = .ok route ∧ if cont then continues f else entitled f)
      ∧ (s.decision en r = .answer .denySuspended ↔ r.state = .suspended)
      ∧ (s.decision en r = .answer .denySpent ↔ r.state = .spent)
      ∧ (s.decision en r = .answer .denyLapsed ↔ r.state = .lapsed)
      ∧ (s.decision en r = .lapse ↔ r.state = .active ∧ r.LapseHolds s.clock.siteMinute)
      ∧ (s.decision en r = .answer .denyNotYet ↔
          r.state = .active ∧ ¬ r.LapseHolds s.clock.siteMinute
            ∧ ∃ a, r.validFrom = some a ∧ s.clock.siteMinute < a)
      ∧ (s.decision en r = .answer .denyRestricted ↔ first ∧ ¬ admitted)
      ∧ (s.decision en r = .answer .needFloor ↔ first ∧ admitted ∧ ∀ f, ¬ continues f ∧ ¬ goes f)
      ∧ (s.decision en r = .answer .denyClosed ↔ first ∧ admitted ∧ ∃ f, goes f ∧ closed f)
      ∧ (s.decision en r = .answer .denyFloor ↔
          first ∧ admitted ∧ ∃ f, goes f ∧ ¬ closed f ∧ f ∉ s.effectiveFloors r)
      ∧ (s.decision en r = .answer .denyPassback ↔
          first ∧ admitted ∧ back ∧ ∃ f, goes f ∧ ¬ closed f ∧ f ∈ s.effectiveFloors r)
      ∧ (∀ c, c = .denyNoRoute ∨ c = .holdRecall ∨ c = .holdUnavailable →
          (s.decision en r = .answer c ↔
            first ∧ admitted ∧ ∃ f, (continues f ∨ entitled f)
              ∧ s.live.route s.dispatch.groups en.origin f = .error c))
      ∧ (s.decision en r = .answer .holdNoAnswer ↔
          first ∧ admitted ∧ s.dispatch.state = .silent
            ∧ ∃ f route, (continues f ∨ entitled f) ∧ s.live.route s.dispatch.groups en.origin f = .ok route)

/-- The deciding turn. A refusal is posted and frees the entry, writing no record but the lapse of step 1; a grant writes budget and
last use, tags the offer, queues the OFFER and leaves the entry OFFERED with its deadline. -/
def Obligations.DecidingTurnAnswersOrOffers : Prop :=
  ∀ (s : State) (n : Fin 4) (b : Bucket) (e : Fin 64) (en : Entry) (w : Way) (r : Record),
    s.servesLookup n { bucket := b, entry := e, kind := .probe } → s.entries[e] = some en →
    s.store.search b en.key = some (w, r) →
    let u := s.turned n .lookup
    (∀ c, s.decision en r = .answer c → exec (.bankTurn n) s = .next (u.answered e en c))
      ∧ (s.decision en r = .lapse → ∃ t x, exec (.bankTurn n) s = .next t ∧ r.validUntil = some x
          ∧ t.store.slot b w = some { r with state := .lapsed, since := x } ∧ s.store.SameBut t.store b w
          ∧ t.store.occupancy = s.store.occupancy ∧ t.store.edition = s.store.edition
          ∧ t = { u.answered e en .denyLapsed with store := t.store })
      ∧ ∀ route cont, s.decision en r = .grant route cont → ∃ t r', exec (.bankTurn n) s = .next t
          ∧ (let tag := s.nextTag
             let use : LastUse := { floor := en.origin, second := s.clock.siteSecond }
             let taken : Bool := !cont && r.budget.isSome
             r'.lastUse = some use
               ∧ (∀ m, taken = true → r.budget = some m → r'.budget = some (m - 1)
                   ∧ (m = 1 → r'.state = .spent ∧ r'.since = s.clock.siteMinute)
                   ∧ (2 ≤ m → r'.state = r.state ∧ r'.since = r.since))
               ∧ (taken = false → r'.budget = r.budget ∧ r'.state = r.state ∧ r'.since = r.since)
               ∧ r' = { r with
                   lastUse := r'.lastUse, budget := r'.budget, state := r'.state, since := r'.since }
               ∧ t.store.slot b w = some r' ∧ s.store.SameBut t.store b w
               ∧ t.store.occupancy = s.store.occupancy ∧ t.store.edition = s.store.edition
               ∧ t = { u with
                   store := t.store
                   entries := u.entries.set e (some { en with
                     state := .offered tag (s.reference + s.settings.timers.offerTimeout) false
                     found := some { bucket := b, way := w, edition := r.edition }
                     grant := some { route := route, budgetTaken := taken, useWritten := use, previous := r.lastUse } })
                   dispatch := { s.dispatch with
                     tagCounter := tag + 1
                     queue := s.dispatch.queue ++ [.offer (some e)
                       { tag := tag, group := route.group, origin := en.origin, target := route.target,
                         finalFloor := route.finalFloor, assist := r.assist || en.assist,
                         kind := if cont then .continuation else .new }] } })

/-- The tag given is the first value, from the tag counter on, that no OFFERED entry holds, and it is found within 65 tries. -/
def Obligations.TagIsTheFirstFreeValue : Prop :=
  ∀ s : State, ∃ i : Nat, i < 65 ∧ s.nextTag = s.dispatch.tagCounter + BitVec.ofNat 8 i ∧ ¬ s.Held s.nextTag
    ∧ ∀ j, j < i → s.Held (s.dispatch.tagCounter + BitVec.ofNat 8 j)

/-- Every route given names an IN_SERVICE group that serves the origin and the target floor, ends at the final floor, and needs a trip
exactly when it stops short of it; the outcome of a leg is decided by the map first and then by the group's state, with the
standby group only for a local group OUT_OF_SERVICE. -/
def Obligations.RoutesFollowTheMapAndGroups : Prop :=
  ∀ (m : FloorMap) (groups : Vector GroupState 12) (o f : Nat),
    (∀ r, m.route groups o f = .ok r →
        groups[r.group] = .inService ∧ m.serves r.group o = true ∧ m.serves r.group r.target = true
          ∧ r.finalFloor = f ∧ (r.tripNeeded = true ↔ r.target ≠ f))
      ∧ (m.zoneOf o = none ∨ m.zoneOf f = none → m.route groups o f = .error .denyNoRoute)
      ∧ (∀ z g, m.zoneOf o = some z → m.zoneOf f = some z → m.zoneTable[z].localGroup = some g →
          m.serves g o = true → m.serves g f = true →
          (groups[g] = .inService →
              m.route groups o f = .ok { group := g, target := f, finalFloor := f, tripNeeded := false })
            ∧ (groups[g] = .recall → m.route groups o f = .error .holdRecall)
            ∧ (groups[g] = .outOfService →
                (∀ x, m.zoneTable[z].standby = some x → groups[x] = .inService → m.serves x o = true →
                    m.serves x f = true →
                    m.route groups o f = .ok { group := x, target := f, finalFloor := f, tripNeeded := false })
                  ∧ ((∀ x, m.zoneTable[z].standby = some x →
                        ¬ (groups[x] = .inService ∧ m.serves x o = true ∧ m.serves x f = true)) →
                      m.route groups o f = .error .holdUnavailable)))
      ∧ (∀ z, m.zoneOf o = some z → m.zoneOf f = some z →
          (∀ g, m.zoneTable[z].localGroup = some g → ¬ (m.serves g o = true ∧ m.serves g f = true)) →
          m.route groups o f = .error .denyNoRoute)
      ∧ ∀ a b, m.zoneOf o = some a → m.zoneOf f = some b → a ≠ b →
          (m.transfer a b = none → m.route groups o f = .error .denyNoRoute)
            ∧ ∀ x, m.transfer a b = some x →
                (¬ (m.serves x.group o = true ∧ m.serves x.group x.floor = true) →
                    m.route groups o f = .error .denyNoRoute)
                  ∧ (m.serves x.group o = true → m.serves x.group x.floor = true →
                      m.route groups o f
                        = (match groups[x.group] with
                           | .inService => .ok
                               { group := x.group, target := x.floor, finalFloor := f, tripNeeded := x.floor != f }
                           | .recall => .error .holdRecall
                           | .outOfService => .error .holdUnavailable))

/-- When a window is open (with the day classes of the reading), when a profile is open, and which floors a record may reach. -/
def Obligations.WindowsProfilesAndEffectiveFloors : Prop :=
  (∀ (w : Window) (today yesterday m : Nat), w.isOpen today yesterday m = true ↔
      (w.days.getLsbD today = true ∧ w.start ≤ m ∧ m < (if 1440 < w.stop then 1440 else w.stop))
        ∨ (1440 < w.stop ∧ w.days.getLsbD yesterday = true ∧ m + 1440 < w.stop))
    ∧ (∀ (s : State) (p : Profile), s.profileOpen p = true ↔
        ∃ w ∈ p.windows, w.isOpen s.today s.yesterday s.clock.minute = true)
    ∧ (∀ s : State, s.clock.weekday ≤ 6 →
        s.today = (if s.clock.day ∈ s.holidays then 7 else s.clock.weekday)
          ∧ s.yesterday
            = (if 1 ≤ s.clock.day ∧ s.clock.day - 1 ∈ s.holidays then 7
               else if s.clock.weekday = 0 then 6 else s.clock.weekday - 1))
    ∧ ∀ (s : State) (r : Record) (f : Nat), f ∈ s.effectiveFloors r ↔
        f ≤ 159 ∧ (f ∈ r.personal ∨ ∃ p ∈ r.profiles, s.profileOpen s.profiles[p] = true ∧ f ∈ s.profiles[p].floors)

/-- The reversal's turn gives back the unit of budget and the last use where the found way still holds the key with the found
edition, writes nothing otherwise, and frees the entry with either outcome. That a record whose budget is absent keeps it absent
though budget was taken is the model's choice (notes/assumptions/30.md). -/
def Obligations.ReversalGivesBack : Prop :=
  ∀ (s : State) (n : Fin 4) (b : Bucket) (e : Fin 64) (en : Entry) (f : Found) (g : Grant),
    s.servesLookup n { bucket := b, entry := e, kind := .reversal } → s.entries[e] = some en →
    en.found = some f → en.grant = some g →
    let u := s.turned n .lookup
    ((∀ r, s.store.slot f.bucket f.way = some r → ¬ (r.key = en.key ∧ r.edition = f.edition)) →
        exec (.bankTurn n) s = .next { u with entries := u.entries.set e none })
      ∧ ∀ r, s.store.slot f.bucket f.way = some r → r.key = en.key → r.edition = f.edition →
          ∃ t r', exec (.bankTurn n) s = .next t ∧ t.store.slot f.bucket f.way = some r'
            ∧ s.store.SameBut t.store f.bucket f.way
            ∧ t.store.occupancy = s.store.occupancy ∧ t.store.edition = s.store.edition
            ∧ (∀ m, g.budgetTaken = true → r.budget = some m → r'.budget = some (min 255 (m + 1))
                ∧ (r.state = .spent → r'.state = .active ∧ r'.since = s.clock.siteMinute)
                ∧ (r.state ≠ .spent → r'.state = r.state ∧ r'.since = r.since))
            ∧ (g.budgetTaken = false ∨ r.budget = none →
                r'.budget = r.budget ∧ r'.state = r.state ∧ r'.since = r.since)
            ∧ r'.lastUse = (if r.lastUse = some g.useWritten then g.previous else r.lastUse)
            ∧ r' = { r with budget := r'.budget, state := r'.state, since := r'.since, lastUse := r'.lastUse }
            ∧ t = { u with store := t.store, entries := u.entries.set e none }

/-- A SWEEP turn: with the clock RUNNING each way is judged by the state it held, lapsed or retired; the walk goes on to the next
bucket, or after bucket 4,095 the pass ends. -/
def Obligations.SweepTurnLapsesAndRetires : Prop :=
  ∀ (s : State) (n : Fin 4) (b : Bucket), s.StoreKept → s.servesSweep n b →
    let u := s.turned n .sweep
    let now := s.clock.siteMinute
    let grace := s.settings.timers.retireGrace
    let works : Bool := s.clock.state == .running
    let lapses (w : Way) : Bool := works && sweepLapses now (s.store.slot b w)
    let retires (w : Way) : Bool := works && sweepRetires now grace (s.store.slot b w)
    let lapsed := s.sweeper.passLapsed + [0, 1, 2, 3].countP lapses
    let retired := s.sweeper.passRetired + [0, 1, 2, 3].countP retires
    ∃ t, exec (.bankTurn n) s = .next t
      ∧ (∀ w, retires w = true → t.store.slot b w = none)
      ∧ (∀ w r x, lapses w = true → s.store.slot b w = some r → r.validUntil = some x →
          t.store.slot b w = some { r with state := .lapsed, since := x })
      ∧ (∀ w, lapses w = false → retires w = false → t.store.slot b w = s.store.slot b w)
      ∧ (∀ b' w, b' ≠ b → t.store.slot b' w = s.store.slot b' w)
      ∧ t.store.occupancy + [0, 1, 2, 3].countP retires = s.store.occupancy ∧ t.store.edition = s.store.edition
      ∧ (∀ next : Bucket, next.val = b.val + 1 →
          t = { u with
            store := t.store
            sweeper := { s.sweeper with pointer := next, passLapsed := lapsed, passRetired := retired }
            banks := u.banks.set (bankOf next)
              { u.banks[bankOf next] with sweep := u.banks[bankOf next].sweep ++ [next] } })
      ∧ (b.val = 4095 →
          t = { u with
            store := t.store
            sweeper :=
              { state := .idle, pointer := 0
                timer :=
                  if s.settings.timers.sweepInterval = 0 then none
                  else some (s.settings.timers.sweepInterval * 60000)
                passLapsed := lapsed, passRetired := retired, lastLapsed := lapsed, lastRetired := retired }
            attention := { s.attention with pending := s.attention.pending ||| 16#8 } })

/-- SWEEP NOW answers by the first condition that holds; the expiry of the interval timer loads it again and starts a pass in IDLE
with the clock RUNNING. That the row changes nothing where the timer is stopped or does not stand at 0 is read from the rules by
inference (notes/assumptions/6.md, 7.md). -/
def Obligations.PassesStartByCommandAndTimer : Prop :=
  EndsAtOnce .sweepNow (fun _ : Unit => []) (fun _ => True)
      (fun _ t =>
        if t.clock.state ≠ .running then t.ended .wrongState []
        else if t.sweeper.state = .passing then t.ended .busy []
        else t.passStarted.ended .ok [])
    ∧ ∀ s : State, s.inReset = false →
        (s.sweeper.timer = none → exec .sweepIntervalExpiry s = .next s)
          ∧ ∀ m, s.sweeper.timer = some m →
              let t : State := { s with
                sweeper := { s.sweeper with
                  timer :=
                    if s.settings.timers.sweepInterval = 0 then none
                    else some (s.settings.timers.sweepInterval * 60000) } }
              exec .sweepIntervalExpiry s
                = .next
                    (if m ≠ 0 then s
                     else if s.sweeper.state = .idle ∧ s.clock.state = .running then t.passStarted else t)

/-! ## Commands that end at once -/

/-- SET CLOCK and SET TICK SOURCE. -/
def Obligations.ClockCommands : Prop :=
  EndsAtOnce .setClock Args.clock
      (fun v => v.day ≤ 65535 ∧ v.weekday ≤ 6 ∧ v.minute ≤ 1439 ∧ v.second ≤ 59)
      (fun v t =>
        { t with
          clock := { t.clock with
            state := .running, day := v.day, weekday := v.weekday, minute := v.minute, second := v.second,
            divider := 0 } }.ended .ok [])
    ∧ EndsAtOnce .setTickSource (fun src : TickSource => [byte1 src.code]) (fun _ => True)
        (fun src t =>
          { t with
            clock := { t.clock with
              source := src
              divider := if src = TickSource.internal ∧ t.clock.source ≠ TickSource.internal then 0 else t.clock.divider } }.ended .ok [])

/-- PUT HOLIDAYS stores the distinct days ascending; PUT PROFILE replaces a whole profile; GET PROFILE returns it. -/
def Obligations.HolidayAndProfileCommands : Prop :=
  EndsAtOnce .putHolidays Args.numbers
      (fun l => l.length ≤ 64 ∧ (∀ d ∈ l, d ≤ 65535) ∧ l.dedup.length ≤ 32)
      (fun l t =>
        { t with holidays := (List.range 65536).filter fun d => decide (d ∈ l) }.ended .ok [byte1 l.dedup.length])
    ∧ EndsAtOnce .putProfile Args.profile
        (fun v => v.floors.length ≤ 160 ∧ (∀ f ∈ v.floors, f ≤ 159) ∧ v.windows.length ≤ 6
          ∧ ∀ w ∈ v.windows, w.start ≤ 1439 ∧ 1 ≤ w.stop ∧ w.stop ≤ 2880 ∧ w.start < w.stop)
        (fun v t =>
          { t with
            profiles := t.profiles.set v.number
              { floors := (List.range 160).filter fun f => decide (f ∈ v.floors), windows := v.windows } }.ended .ok [])
    ∧ EndsAtOnce .getProfile (fun n : Fin 256 => [byte1 n]) (fun _ => True)
        (fun n t =>
          t.ended .ok
            (Args.profile { number := n, floors := t.profiles[n].floors, windows := t.profiles[n].windows }))

/-- SET FLOOR, SET GROUP, SET ZONE and SET TRANSFER write one item of the staged map and nothing else. -/
def Obligations.MapEditingWritesTheStagedMap : Prop :=
  EndsAtOnce .setFloor Args.floorEdit
      (fun v =>
        match v with
        | .count n => n ≤ 160
        | .range first last _ => first ≤ last ∧ last ≤ 159)
      (fun v t =>
        match v with
        | .count n => { t with staged := { t.staged with count := n } }.ended .ok []
        | .range first last zone =>
          { t with
            staged := { t.staged with
              zones := Vector.ofFn fun i : Fin 160 =>
                if first ≤ i.val ∧ i.val ≤ last then zone else t.staged.zones[i] } }.ended .ok [])
    ∧ EndsAtOnce .setGroup (fun v : Fin 12 × List Nat => byte1 v.1 :: Args.floors v.2)
        (fun v => v.2.length ≤ 160 ∧ ∀ f ∈ v.2, f ≤ 159)
        (fun v t =>
          { t with
            staged := { t.staged with
              served := t.staged.served.set v.1 ((List.range 160).filter fun f => decide (f ∈ v.2)) } }.ended .ok [])
    ∧ EndsAtOnce .setZone
        (fun v : Fin 8 × Option (Fin 12) × Option (Fin 12) =>
          [byte1 v.1, Args.optional v.2.1, Args.optional v.2.2])
        (fun v => v.2.2 ≠ none → v.2.1 ≠ none ∧ v.2.2 ≠ v.2.1)
        (fun v t =>
          { t with
            staged := { t.staged with
              zoneTable := t.staged.zoneTable.set v.1 { localGroup := v.2.1, standby := v.2.2 } } }.ended .ok [])
    ∧ EndsAtOnce .setTransfer Args.transfer
        (fun v => v.origin ≠ v.destination ∧ ∀ x, v.entry = some x → x.floor ≤ 159)
        (fun v t =>
          { t with
            staged := { t.staged with
              transfers := t.staged.transfers.set (transferIndex v.origin v.destination) v.entry } }.ended .ok [])

/-- COMMIT MAP reports the first failing item of the four stages or makes the staged map live; DISCARD MAP copies the live map back;
READ MAP returns the part named. That a selector byte without a code ends BAD_ARG for every part, and that a group's floors are
listed ascending, is the model's choice (notes/assumptions/21.md, 28.md). -/
def Obligations.CommitDiscardAndReadMap : Prop :=
  (∀ m : FloorMap, (m.firstFault = none ↔ ∀ kind index, ¬ m.Fails kind index)
      ∧ ∀ kind index, m.firstFault = some (kind, index) ↔
          m.Fails kind index ∧ ∀ k i, k < kind ∨ (k = kind ∧ i < index) → ¬ m.Fails k i)
    ∧ EndsAtOnce .commitMap (fun _ : Unit => []) (fun _ => True)
        (fun _ t =>
          match t.staged.firstFault with
          | none => { t with live := t.staged }.ended .ok []
          | some x => t.ended .invalidMap [byte1 x.1, byte1 x.2])
    ∧ EndsAtOnce .discardMap (fun _ : Unit => []) (fun _ => True)
        (fun _ t => { t with staged := t.live }.ended .ok [])
    ∧ EndsAtOnce .readMap Args.readMap (fun _ => True)
        (fun v t =>
          let m := if v.1 then t.staged else t.live
          t.ended .ok
            (match v.2 with
             | .floors _ => byte1 m.count :: m.zones.toList.map Args.optional
             | .group g => Args.floors m.served[g]
             | .zone z => [Args.optional m.zoneTable[z].localGroup, Args.optional m.zoneTable[z].standby]
             | .transfers a => (List.finRange 8).flatMap fun b =>
                 match m.transfer a b with
                 | some x => if a = b then [255, 0] else [byte1 x.group, byte1 x.floor]
                 | none => [255, 0]
             | .lobby n =>
               [byte1 t.lobbies[n].origin] ++ be 2 t.lobbies[n].window ++ [byte1 t.lobbies[n].policy.code]))

/-- SET LOBBY, SET SITES, SET MODE and SET CLOSURES. -/
def Obligations.LobbyAndBuildingSettings : Prop :=
  EndsAtOnce .setLobby Args.lobby (fun v => v.origin ≤ 159 ∧ v.window ≤ 65535)
      (fun v t =>
        let w := min 600 v.window
        { t with lobbies := t.lobbies.set v.lobby { origin := v.origin, window := w, policy := v.policy } }.ended
          (if v.window ≤ 600 then .ok else .okClamped) ([byte1 v.origin] ++ be 2 w ++ [byte1 v.policy.code]))
    ∧ EndsAtOnce .setSites Args.numbers (fun l => l.length ≤ 4 ∧ (∀ c ∈ l, c ≤ 1023) ∧ l.Nodup)
        (fun l t => { t with settings := { t.settings with sites := l } }.ended .ok (Args.numbers l))
    ∧ EndsAtOnce .setMode Args.mode (fun _ => True)
        (fun v t =>
          { t with settings := { t.settings with mode := v.1, admitSet := v.2 } }.ended .ok (Args.mode v))
    ∧ EndsAtOnce .setClosures Args.floors (fun l => l.length ≤ 160 ∧ ∀ f ∈ l, f ≤ 159)
        (fun l t =>
          { t with
            settings := { t.settings with
              closures := (List.range 160).filter fun f => decide (f ∈ l) } }.ended .ok [byte1 l.dedup.length])

/-- SET TIMERS clamps each value to the nearer bound, rounds the offer timeout down to a multiple of 100, and loads or stops the
interval timer only where the sweep interval changes. -/
def Obligations.SetTimersClamps : Prop :=
  EndsAtOnce .setTimers Args.timers
    (fun v => v.offerTimeout ≤ 65535 ∧ v.tripLifetime ≤ 65535 ∧ v.retireGrace ≤ 65535 ∧ v.sweepInterval ≤ 65535
      ∧ v.nearFull ≤ 65535)
    (fun v t =>
      let x : Timers :=
        { offerTimeout := (if v.offerTimeout < 200 then 200 else if 5000 < v.offerTimeout then 5000 else
            v.offerTimeout - v.offerTimeout % 100)
          tripLifetime := (if v.tripLifetime < 30 then 30 else if 1800 < v.tripLifetime then 1800 else v.tripLifetime)
          retireGrace := (if 10080 < v.retireGrace then 10080 else v.retireGrace)
          sweepInterval := (if 1440 < v.sweepInterval then 1440 else v.sweepInterval)
          nearFull := (if 16384 < v.nearFull then 16384 else v.nearFull) }
      let clamped : Bool :=
        decide (v.offerTimeout < 200) || decide (5000 < v.offerTimeout) || decide (v.tripLifetime < 30)
          || decide (1800 < v.tripLifetime) || decide (10080 < v.retireGrace) || decide (1440 < v.sweepInterval)
          || decide (16384 < v.nearFull)
      { t with
        settings := { t.settings with timers := x }
        sweeper := { t.sweeper with
          timer :=
            if x.sweepInterval = t.settings.timers.sweepInterval then t.sweeper.timer
            else if x.sweepInterval = 0 then none else some (x.sweepInterval * 60000) } }.ended
        (if clamped then .okClamped else .ok) (Args.timers x))

/-- SET DROP writes the lobby and acts on the enabled setting by the drop's state, BAR DROP and UNBAR DROP write the answer mode, SET
LINK writes the clamped settings and, where it disables an enabled link, cuts off its poll and its enabled drops; the lobbies
are recomputed where drop states may change. That a poll under way to a drop that SET DROP disables is abandoned, and that the
walk starts anew where no drop is left enabled, is the model's reading (notes/assumptions/10.md). -/
def Obligations.DropAndLinkCommands : Prop :=
  EndsAtOnce .setDrop Args.drop (fun _ => True)
      (fun v t =>
        let x := t.drop v.link v.drop
        let y : Drop :=
          if v.enabled then
            if x.state = .disabled then
              { x with state := .seeking, good := 0, failed := 0, blockPolls := 0, blockFailed := 0, lobby := v.lobby }
            else { x with lobby := v.lobby }
          else if x.state = .disabled then { x with lobby := v.lobby }
          else
            { lobby := v.lobby, state := .disabled, mode := x.mode, good := 0, failed := 0, blockPolls := 0,
              blockFailed := 0, transaction := none, side := none }
        let drops := t.links[v.link].drops.set v.drop y
        let none' : Bool := drops.toList.all fun z => z.state == .disabled
        { t with
          links := t.links.set v.link { t.links[v.link] with
            drops := drops
            poll :=
              if v.enabled then t.links[v.link].poll
              else t.links[v.link].poll.filter fun p => p.drop != v.drop
            walk := if none' then 0 else t.links[v.link].walk } }.recompute.ended .ok [])
    ∧ EndsAtOnce .barDrop Args.linkDrop (fun _ => True)
        (fun v t => (t.setDrop v.1 v.2 { t.drop v.1 v.2 with mode := .barred }).ended .ok [])
    ∧ EndsAtOnce .unbarDrop Args.linkDrop (fun _ => True)
        (fun v t => (t.setDrop v.1 v.2 { t.drop v.1 v.2 with mode := .serve }).ended .ok [])
    ∧ EndsAtOnce .setLink Args.link (fun v => v.2.divisor ≤ 65535 ∧ v.2.limit ≤ 255)
        (fun v t =>
          let k := t.links[v.1]
          let bound := if v.2.granularity = .power then 14 else 4095
          let x : LinkSettings := { v.2 with
            divisor := min bound v.2.divisor
            limit := if v.2.limit < 1 then 1 else if 15 < v.2.limit then 15 else v.2.limit }
          let cut : Bool := k.settings.enabled && !x.enabled
          { t with
            links := t.links.set v.1
              { settings := x
                drops := k.drops.map fun d : Drop =>
                  if cut && d.state != DropState.disabled then
                    { lobby := d.lobby, state := .seeking, mode := d.mode, good := 0, failed := 0, blockPolls := 0,
                      blockFailed := 0, transaction := none, side := none }
                  else d
                walk := if k.settings.enabled != x.enabled then 0 else k.walk
                poll := if cut then none else k.poll } }.recompute.ended
            (if x = v.2 then .ok else .okClamped)
            ([yesNo x.enabled, byte1 x.granularity.code] ++ be 2 x.divisor ++ [byte1 x.limit]))

/-- WATCH writes the selection, empties the record and zeroes the count; READ WATCH returns selection, record, count and the drop's
counts. Which bytes stand for what is absent, where the spec names none, is the model's choice (notes/assumptions/11.md). -/
def Obligations.WatchCommands : Prop :=
  EndsAtOnce .watch Args.selection (fun _ => True)
      (fun v t =>
        { t with
          watch :=
            { selection :=
                (match v with
                 | .none _ _ => none
                 | .drop l d => some (l, d))
              record := none, count := 0 } }.ended .ok [])
    ∧ EndsAtOnce .readWatch (fun _ : Unit => []) (fun _ => True)
        (fun _ t =>
          let record : List Byte :=
            match t.watch.record with
            | none => [0, 255, 255, 255, 255, 255, 255, 255, 255, 255, 255]
            | some w =>
              [1, byte1 w.kind.code] ++ be 2 w.key.site ++ be 3 w.key.card
                ++ (match w.requested with
                    | some f => [byte1 f]
                    | none => [255])
                ++ (match w.reply with
                    | .accept g car _ _ => [0, byte1 g, byte1 car]
                    | .plain c => [byte1 c.code, 255, 255])
          t.ended .ok
            (match t.watch.selection with
             | none => [0, 0, 0] ++ record ++ be 2 t.watch.count ++ [0, 0, 0, 0, 0, 0]
             | some (l, d) =>
               let x := t.drop l d
               [1, byte1 l, byte1 (d.val + 1)] ++ record ++ be 2 t.watch.count
                 ++ [byte1 x.state.code, byte1 x.mode.code, byte1 x.good, byte1 x.failed, byte1 x.blockPolls,
                   byte1 x.blockFailed]))

/-- SET PATTERN stages a valid pattern and refuses every other; READ PATTERN returns the current pattern, the staged one and the
position. -/
def Obligations.PatternCommands : Prop :=
  EndsAtOnce .setPattern Args.pattern
      (fun v => 2 ≤ v.2.toList.count .lookup ∧ 1 ≤ v.2.toList.count .upkeep ∧ 1 ≤ v.2.toList.count .sweep)
      (fun v t => { t with banks := t.banks.set v.1 { t.banks[v.1] with staged := some v.2 } }.ended .ok [])
    ∧ EndsAtOnce .readPattern (fun n : Fin 4 => [byte1 n]) (fun _ => True)
        (fun n t =>
          t.ended .ok
            (t.banks[n].pattern.toList.map (fun c => byte1 c.code)
              ++ (match t.banks[n].staged with
                  | some p => 1 :: p.toList.map fun c => byte1 c.code
                  | none => [0, 0, 0, 0, 0, 0, 0, 0, 0])
              ++ [byte1 t.banks[n].position]))

/-- READ STATUS returns one picture of 171 bytes in the order of R195, taken before its own end raises COMMAND_DONE. -/
def Obligations.ReadStatusReturnsThePicture : Prop :=
  EndsAtOnce .readStatus (fun _ : Unit => []) (fun _ => True)
      (fun _ t =>
        t.ended .ok
          (be 2 t.store.occupancy ++ be 2 t.store.edition
            ++ [byte1 (t.entries.toList.filter Option.isSome).length, if t.emg then 1 else 0] ++ be 2 t.trips.length
            ++ [byte1 t.clock.state.code] ++ be 2 t.clock.day ++ [byte1 t.clock.weekday] ++ be 2 t.clock.minute
            ++ [byte1 t.clock.second, byte1 t.clock.source.code]
            ++ ((List.finRange 4).flatMap fun l => (List.finRange 28).map fun d =>
                byte1 ((t.drop l d).state.code + 8 * (t.drop l d).mode.code))
            ++ ((List.finRange 16).map fun n => byte1 t.service[n].code)
            ++ [byte1 t.dispatch.state.code] ++ ((List.finRange 12).map fun g => byte1 (groupStateCode t.dispatch.groups[g]))
            ++ be 2 t.dispatch.frameErrors ++ be 2 t.dispatch.staleAnswers
            ++ [byte1 t.sweeper.state.code] ++ be 2 t.sweeper.pointer ++ be 2 t.sweeper.lastLapsed
            ++ be 2 t.sweeper.lastRetired
            ++ [t.attention.pending, t.attention.enables, byte1 t.attention.mode.code]))
    ∧ ∀ s : State, s.statusPicture.length = 171

/-- SET ATTENTION, CLEAR ATTENTION, the end of a 2 µs release, and the ATTN line. How the release is held, and that its end is a
row, is the model's choice (notes/assumptions/24.md). -/
def Obligations.AttentionCommandsAndLine : Prop :=
  EndsAtOnce .setAttention (fun v : Byte × AttnMode => [v.1, byte1 v.2.code]) (fun _ => True)
      (fun v t =>
        { t with
          attention := { t.attention with
            enables := v.1, mode := v.2, release := if v.2 = AttnMode.level then 0 else t.attention.release } }.ended .ok
          [v.1, byte1 v.2.code, t.attention.pending])
    ∧ EndsAtOnce .clearAttention (fun set : Byte => [set]) (fun _ => True)
        (fun set t =>
          let left := t.attention.pending &&& ~~~set
          { t with
            attention := { t.attention with
              pending := left
              release :=
                if t.attention.mode = AttnMode.pulse ∧ t.attention.pending &&& t.attention.enables &&& set ≠ 0
                    ∧ left &&& t.attention.enables ≠ 0 then 2
                else t.attention.release } }.ended .ok [left])
    ∧ (∀ s : State, s.inReset = false →
        exec .attnPulseEnd s = .next { s with attention := { s.attention with release := 0 } })
    ∧ ∀ s : State, s.attn = true ↔
        s.inReset = false ∧ s.attention.pending &&& s.attention.enables ≠ 0
          ∧ (s.attention.mode = .pulse → s.attention.release = 0)

/-! ## Request links -/

/-- The recomputation of the lobbies gives each the state its drop records give it, raises LOBBY_CHANGE and composes a notice for
each lobby that enters or leaves SERVED, in ascending order, and touches nothing else; a posted reply reaches only the
transaction that holds the entry's number. The order of several notices of one event is the model's choice
(notes/assumptions/9.md). -/
def Obligations.LobbiesRecomputedAndRepliesPosted : Prop :=
  (∀ s : State,
      let t := s.recompute
      let crossed : List (Fin 16) :=
        (List.finRange 16).filter fun n =>
          s.serviceOf n != s.service[n] && (s.serviceOf n == .served || s.service[n] == .served)
      t = { s with service := t.service, attention := t.attention, dispatch := t.dispatch }
        ∧ (∀ n : Fin 16,
            ((∃ l d, (s.drop l d).lobby = n ∧ ((s.drop l d).state = .online ∨ (s.drop l d).state = .degraded)) →
                t.service[n] = .served)
              ∧ ((∃ l d, (s.drop l d).lobby = n ∧ (s.drop l d).state ≠ .disabled) →
                  (∀ l d, (s.drop l d).lobby = n → (s.drop l d).state ≠ .online ∧ (s.drop l d).state ≠ .degraded) →
                  t.service[n] = .unserved)
              ∧ ((∀ l d, (s.drop l d).lobby = n → (s.drop l d).state = .disabled) → t.service[n] = .vacant))
        ∧ t.attention
            = (if crossed = [] then s.attention
               else { s.attention with pending := s.attention.pending ||| 4#8 })
        ∧ t.dispatch = { s.dispatch with queue := t.dispatch.queue, owed := t.dispatch.owed }
        ∧ t.dispatch.queue
            = s.dispatch.queue
              ++ ((crossed.map fun n => .notice n (s.serviceOf n) s.lobbies[n].policy).take
                (32 - s.dispatch.queue.countP TxFrame.isNotice))
        ∧ t.dispatch.owed
            = (if crossed ≠ [] ∧ 32 < s.dispatch.queue.countP TxFrame.isNotice + crossed.length then true
               else s.dispatch.owed))
    ∧ ∀ (s : State) (e : Fin 64) (en : Entry) (r : Reply),
        (∀ tr, (s.drop en.link en.drop).transaction = some tr → tr.entry = some e →
            s.post e en r = s.setDrop en.link en.drop { s.drop en.link en.drop with
              transaction := some { tr with reply := some r } })
          ∧ ((∀ tr, (s.drop en.link en.drop).transaction = some tr → tr.entry ≠ some e) → s.post e en r = s)

/-- An enabled link with no poll under way polls its next enabled drop, ascending and wrapping; the poll carries the reply of the slot,
or else the side answer, which is discarded and recorded for the watch drop. Otherwise nothing is sent: that the row then changes
nothing is read from the rules by inference, and so is where the walk starts (notes/assumptions/6.md, 10.md). -/
def Obligations.PollGoesToTheNextEnabledDrop : Prop :=
  ∀ (s : State) (l : Fin 4), s.inReset = false →
    let k := s.links[l]
    let on (d : Fin 28) : Prop := k.drops[d].state ≠ .disabled
    let turn (d : Fin 28) : Prop :=
      on d ∧ ((k.walk < d.val + 1 ∧ ∀ d', on d' → k.walk < d'.val + 1 → d ≤ d')
        ∨ ((∀ d', on d' → d'.val + 1 ≤ k.walk) ∧ ∀ d', on d' → d ≤ d'))
    (k.settings.enabled = false ∨ k.poll ≠ none ∨ (∀ d, ¬ on d) → exec (.poll l) s = .next s)
      ∧ ∀ d, k.settings.enabled = true → k.poll = none → turn d →
          let x := k.drops[d]
          let sent (item : PollItem) (w : Watch) : State :=
            { s with
              watch := w
              links := s.links.set l { k with
                walk := d.val + 1, poll := some { drop := d, item := item, settings := k.settings }
                drops := k.drops.set d { x with side := none } } }
          (∀ tr r, x.transaction = some tr → tr.reply = some r →
              exec (.poll l) s = .next (sent (.reply r tr.request.number) s.watch))
            ∧ ((∀ tr, x.transaction = some tr → tr.reply = none) →
                (x.side = none → exec (.poll l) s = .next (sent .nothing s.watch))
                  ∧ ∀ a, x.side = some a →
                      exec (.poll l) s
                        = .next (sent (.side a.code a.number)
                            (if s.watch.selection = some (l, d) then
                               { s.watch with
                                 record := some
                                   { kind := a.kind, key := a.key, requested := a.requested, reply := .plain a.code }
                                 count := min 65535 (s.watch.count + 1) }
                             else s.watch)))

/-- The outcome of a poll, handled in order: a good answer delivers the reply carried, supervises, bars on TAMPER and then has its
request checked; a bad answer and no answer only supervise. That nothing is taken with no poll under way (notes/assumptions/6.md),
and which bytes are a good answer and which a bad one (notes/assumptions/19.md), is read from the rules by inference. That a request
which carries TAMPER is checked like any other, so that a SEEKING or LOST drop is given NOT_READY, is the model's choice
(notes/assumptions/29.md). -/
def Obligations.PollOutcomesInOrder : Prop :=
  ∀ (s : State) (l : Fin 4), s.inReset = false →
    (s.links[l].poll = none →
        exec (.pollAnswerTimeout l) s = .next s ∧ ∀ bytes, exec (.pollAnswer l bytes) s = .next s)
      ∧ ∀ p, s.links[l].poll = some p →
          let s1 : State := { s with links := s.links.set l { s.links[l] with poll := none } }
          let d := p.drop
          exec (.pollAnswerTimeout l) s = .next (s1.supervise l d false)
            ∧ (∀ bytes, readAnswer d bytes = none → exec (.pollAnswer l bytes) s = .next (s1.supervise l d false))
            ∧ ∀ bytes a, readAnswer d bytes = some a →
                ∃ s2 s3 s4, exec (.pollAnswer l bytes) s
                    = .next
                        (match a.request with
                         | some r => s4.request l d r
                         | none => s4)
                  ∧ s3 = s2.supervise l d true
                  ∧ s4 = (if a.tamper then
                      { s3 with
                        links := s3.links.set l { s3.links[l] with
                          drops := s3.links[l].drops.set d { s3.links[l].drops[d] with mode := .barred } }
                        attention := { s3.attention with pending := s3.attention.pending ||| 2#8 } }
                    else s3)
                  ∧ ((∀ r number, p.item ≠ .reply r number) → s2 = s1)
                  ∧ ∀ r number tr r', p.item = .reply r number → (s.drop l d).transaction = some tr →
                      tr.reply = some r' →
                      s2 = { s1.setDrop l d { s.drop l d with transaction := none } with
                        watch :=
                          if s.watch.selection = some (l, d) then
                            { s.watch with
                              record := some
                                { kind := tr.request.kind, key := tr.request.key, requested := tr.request.requested,
                                  reply := r' }
                              count := min 65535 (s.watch.count + 1) }
                          else s.watch }

/-- Drop supervision: consecutive counts, the way to ONLINE on the second good answer, the way to LOST on the third failure with the
transaction closed and DROP_CHANGE raised, and the judgement of a block at its 64th poll. -/
def Obligations.SupervisionOfDrops : Prop :=
  ∀ (s : State) (l : Fin 4) (d : Fin 28),
    let x := s.drop l d
    let answers : Bool := x.state == .online || x.state == .degraded
    (∀ y : Drop, (let x1 : Drop := { x with good := min 2 (x.good + 1), failed := 0 }
           if answers then x1.Counted y 0
           else if (x.state = .seeking ∨ x.state = .lost) ∧ 1 ≤ x.good then
             y = { x with state := .online, good := 0, failed := 0, blockPolls := 0, blockFailed := 0 }
           else y = x1) →
        s.supervise l d true
          = ({ (s.setDrop l d y) with
               attention :=
                 if x.state = DropState.online ∧ y.state = DropState.degraded then
                   { s.attention with pending := s.attention.pending ||| 1#8 }
                 else s.attention }).recompute)
      ∧ (∀ y : Drop, (let x1 : Drop := { x with good := 0, failed := min 3 (x.failed + 1) }
               if answers ∧ 2 ≤ x.failed then
                 y = { lobby := x.lobby, state := .lost, mode := x.mode, good := 0, failed := 0, blockPolls := 0,
                       blockFailed := 0, transaction := none, side := none }
               else if answers then x1.Counted y 1
               else y = x1) →
          s.supervise l d false
            = ({ (s.setDrop l d y) with
                 attention :=
                   if answers = true ∧ (y.state = DropState.lost ∨ (x.state = DropState.online ∧ y.state = DropState.degraded)) then
                     { s.attention with pending := s.attention.pending ||| 1#8 }
                   else s.attention }).recompute)

/-- The checks of a good REQUEST in order: turned away with its reply in a new transaction, or as a side answer where one is open;
accepted, it is answered by the first early check that holds, or takes the lowest free entry and queues its home probe. That a
side answer is given also where the reply slot of the open transaction is full is the model's choice, against a remark of the
spec (notes/assumptions/26.md), and so is that NOT_READY comes before OUT_OF_SERVICE also where the request carried TAMPER
(notes/assumptions/29.md). -/
def Obligations.RequestChecksAndArrival : Prop :=
  ∀ (s : State) (l : Fin 4) (d : Fin 28) (r : Request),
    let x := s.drop l d
    let answers : Prop := x.state = .online ∨ x.state = .degraded
    let turned (c : ReplyCode) : State :=
      match x.transaction with
      | none => s.setDrop l d { x with
          transaction := some { request := r, entry := none, reply := some (.plain c) } }
      | some _ => s.setDrop l d { x with
          side := some { code := c, number := r.number, kind := r.kind, key := r.key, requested := r.requested } }
    let origin := s.lobbies[x.lobby].origin
    let early : List (Prop × ReplyCode) :=
      [(s.emg = true, .holdEmergency), (s.clock.state ≠ .running, .holdClock),
       (s.dispatch.state = .silent, .holdNoAnswer), (∀ e : Fin 64, s.entries[e] ≠ none, .holdBusy),
       (r.key.site ∉ s.settings.sites, .denyForeign),
       (∃ f, r.requested = some f ∧ (s.live.count ≤ f ∨ s.live.zoneOf f = none), .refuseBadFloor),
       (r.requested = some origin, .refuseSameFloor)]
    (¬ answers → s.request l d r = turned .notReady)
      ∧ (answers → x.mode = .barred → s.request l d r = turned .outOfService)
      ∧ (answers → x.mode = .serve → x.transaction ≠ none → s.request l d r = turned .busy)
      ∧ (answers → x.mode = .serve → x.transaction = none →
          (∀ (i : Nat) p c, early[i]? = some (p, c) → p → (∀ (j : Nat) p' c', j < i → early[j]? = some (p', c') → ¬ p') →
              s.request l d r = s.setDrop l d { x with
                transaction := some { request := r, entry := none, reply := some (.plain c) } })
            ∧ ∀ e : Fin 64, (∀ (i : Nat) p c, early[i]? = some (p, c) → ¬ p) → s.entries[e] = none →
                (∀ e' : Fin 64, e' < e → s.entries[e'] ≠ none) →
                let home := r.key.home
                s.request l d r
                  = { s.setDrop l d { x with
                        transaction := some { request := r, entry := some e, reply := none } } with
                      entries := s.entries.set e (some
                        { link := l, drop := d, lobby := x.lobby, origin := origin, kind := r.kind, key := r.key,
                          requested := r.requested, assist := r.assist, state := .probeHome, found := none,
                          grant := none })
                      banks := s.banks.set (bankOf home) { s.banks[bankOf home] with
                        lookup := s.banks[bankOf home].lookup ++ [{ bucket := home, entry := e, kind := .probe }] } })

/-! ## The dispatch link -/

/-- A good frame first keeps the link alive: it zeroes the timeouts and makes a SILENT link ACTIVE, with DISPATCH_CHANGE and the
re-announcement. LINK ANSWER does no more; GROUP STATE then writes its group; an ASSIGN or DECLINE that matches no outstanding
offer is then counted stale and touches nothing else. -/
def Obligations.GoodFramesKeepTheLinkAlive : Prop :=
  ∀ s : State, s.inReset = false →
    exec .linkAnswer s = .next s.heard
      ∧ (∀ g x, exec (.groupState g x) s
          = .next { s.heard with dispatch := { s.heard.dispatch with groups := s.dispatch.groups.set g x } })
      ∧ ∀ tag, (∀ e en, ¬ s.Outstanding tag e en) →
          let t : State :=
            { s.heard with
              dispatch := { s.heard.dispatch with staleAnswers := min 65535 (s.dispatch.staleAnswers + 1) } }
          (∀ car, exec (.assign tag car) s = .next t) ∧ ∀ reason, exec (.decline tag reason) s = .next t

/-- An ASSIGN of an outstanding offer removes the key's trip, creates one where the route needs it and there is room, posts ACCEPT
with the continuation-available flag and frees the entry. -/
def Obligations.AssignAcceptsAndKeepsTheTrip : Prop :=
  ∀ (s : State) (tag : Byte) (car : Fin 16) (e : Fin 64) (en : Entry) (g : Grant), s.inReset = false → s.TagsKept →
    s.Outstanding tag e en → en.grant = some g →
    let others := s.trips.filter fun x => x.key != en.key
    let creates : Bool := g.route.tripNeeded && decide (others.length < 256)
    let t : State :=
      { s.heard with
        trips :=
          if creates then
            others ++ [
              { key := en.key, transfer := g.route.target, finalFloor := g.route.finalFloor, group := g.route.group,
                remaining := s.settings.timers.tripLifetime }]
          else others }
    exec (.assign tag car) s
      = .next { t.post e en (.accept g.route.group car g.route.target creates) with
          entries := s.entries.set e none }

/-- A DECLINE of an outstanding offer writes OUT_OF_SERVICE for GROUP_OUT, posts the reply its reason gives and queues the reversal on
the found bucket's bank. -/
def Obligations.DeclineRepliesAndReverses : Prop :=
  ∀ (s : State) (tag : Byte) (reason : DeclineReason) (e : Fin 64) (en : Entry) (g : Grant) (f : Found),
    s.inReset = false → s.TagsKept → s.Outstanding tag e en → en.grant = some g → en.found = some f →
    let t : State :=
      if reason = .groupOut then
        { s.heard with
          dispatch := { s.heard.dispatch with groups := s.dispatch.groups.set g.route.group .outOfService } }
      else s.heard
    let reply : ReplyCode := if reason = .groupFull then .holdBusy else .holdUnavailable
    exec (.decline tag reason) s = .next ((t.post e en (.plain reply)).reversing e en f)

/-- The expiry of an OFFERED entry, where the reference has reached its deadline and not before, posts HOLD_NOANSWER and queues
the reversal. A sent offer counts towards the link, and the third makes it SILENT; an unsent one leaves the queue; one in
transmission is sent to its end for no entry. That the row changes nothing before the deadline is read from the rules by
inference (notes/assumptions/7.md); how an offer is marked sent is the model's choice (notes/assumptions/18.md). -/
def Obligations.ExpiryHoldsAndReverses : Prop :=
  ∀ (s : State) (e : Fin 64) (en : Entry) (tag : Byte) (deadline : Nat) (sent : Bool) (f : Found),
    s.inReset = false → s.entries[e] = some en → en.state = .offered tag deadline sent → en.found = some f →
    let timeouts := min 3 (s.dispatch.timeouts + 1)
    let falls : Prop := 2 ≤ s.dispatch.timeouts ∧ s.dispatch.state = .active
    (s.reference < deadline → exec (.offerExpiry e) s = .next s)
      ∧ (deadline ≤ s.reference → sent = false →
        exec (.offerExpiry e) s
          = .next ((({ s with
              dispatch := { s.dispatch with
                queue := s.dispatch.queue.filter (fun x => !x.ownedBy e),
                sending := s.dispatch.sending.map (TxFrame.orphaned e) } } : State).post e en (.plain .holdNoAnswer)).reversing e en f))
      ∧ (deadline ≤ s.reference → sent = true → ¬ falls →
          exec (.offerExpiry e) s
            = .next ((({ s with dispatch := { s.dispatch with timeouts := timeouts } } : State).post e en
                (.plain .holdNoAnswer)).reversing e en f))
      ∧ (deadline ≤ s.reference → sent = true → falls →
          exec (.offerExpiry e) s
            = .next ((({ s with
                dispatch := { s.dispatch with
                  timeouts := 3, state := .silent, checkTimer := some 1000
                  queue :=
                    if .linkCheck ∈ s.dispatch.queue then s.dispatch.queue else s.dispatch.queue ++ [.linkCheck] }
                attention := { s.attention with pending := s.attention.pending ||| 8#8 } } : State).post e en
                  (.plain .holdNoAnswer)).reversing e en f))

/-- A frame that is not good, complete, overlong or ended by the gap, adds 1 to the frame error count, saturating, and touches nothing
else; a start byte outside a frame begins one. Bytes that are a good frame are no DISPATCH_BAD_FRAME: that refusal is the
model's (notes/assumptions/14.md), and so is the counting of bytes that are neither a complete frame nor one ended by its length
byte (notes/assumptions/27.md). That a gap outside a frame changes nothing is read from the rules by inference
(notes/assumptions/6.md); that only whether a frame is being assembled is held is the model's choice (notes/assumptions/17.md). -/
def Obligations.BadDispatchFramesAreCounted : Prop :=
  ∀ s : State, s.inReset = false →
    let counted : State :=
      { s with
        dispatch := { s.dispatch with frameErrors := min 65535 (s.dispatch.frameErrors + 1), receiver := .outside } }
    (∀ bytes, readDispatch bytes = none → exec (.dispatchBadFrame bytes) s = .next counted)
      ∧ (s.dispatch.receiver = .assembling → exec .dispatchFrameGap s = .next counted)
      ∧ (s.dispatch.receiver = .outside → exec .dispatchFrameGap s = .next s)
      ∧ exec .frameBegins s = .next { s with dispatch := { s.dispatch with receiver := .assembling } }

/-- On a free line the head of the queue becomes the frame in transmission, with a re-announcement where it was the last notice waiting
and one is owed; a completely sent OFFER makes its offer outstanding; the LINK CHECK timer queues at most one LINK CHECK and
starts again. That FRAME_TRANSMIT on a busy line or an empty queue, FRAME_SENT on a free line and LINK_CHECK_TIMER of a timer that is
stopped or above 0 change nothing is read from the rules by inference (notes/assumptions/6.md, 7.md); how an offer is marked sent is
the model's choice, and an OFFER whose entry is not OFFERED, which no run sends, marks none (notes/assumptions/18.md). -/
def Obligations.FramesLeaveInOrder : Prop :=
  ∀ s : State, s.inReset = false →
    (s.dispatch.sending ≠ none ∨ s.dispatch.queue = [] → exec .frameTransmit s = .next s)
      ∧ (∀ x rest, s.dispatch.sending = none → s.dispatch.queue = x :: rest →
          let again : Bool := x.isNotice && s.dispatch.owed && !rest.any TxFrame.isNotice
          exec .frameTransmit s
            = .next { s with
                dispatch := { s.dispatch with
                  sending := some x
                  queue := if again then rest ++ s.notices else rest
                  owed := if again then false else s.dispatch.owed } })
      ∧ (s.dispatch.sending = none → exec .frameSent s = .next s)
      ∧ (∀ x, s.dispatch.sending = some x →
          let t : State := { s with dispatch := { s.dispatch with sending := none } }
          (∀ e o en tag d y, x = .offer (some e) o → s.entries[e] = some en → en.state = .offered tag d y →
              exec .frameSent s
                = .next { t with entries := t.entries.set e (some { en with state := .offered tag d true }) })
            ∧ (∀ e o, x = .offer (some e) o →
                (∀ en tag d y, s.entries[e] = some en → en.state ≠ .offered tag d y) → exec .frameSent s = .next t)
            ∧ ((∀ e o, x ≠ .offer (some e) o) → exec .frameSent s = .next t))
      ∧ (s.dispatch.checkTimer = none → exec .linkCheckTimer s = .next s)
      ∧ ∀ m, s.dispatch.checkTimer = some m →
          exec .linkCheckTimer s
            = .next
                (if m ≠ 0 then s
                 else
                   { s with
                     dispatch := { s.dispatch with
                       checkTimer := some 1000
                       queue :=
                         if .linkCheck ∈ s.dispatch.queue then s.dispatch.queue
                         else s.dispatch.queue ++ [.linkCheck] } })

/-! ## Invariants -/

/-- The state right after reset meets every invariant. -/
def Obligations.ResetMeetsTheInvariants : Prop :=
  State.reset.ClockKept ∧ State.reset.StoreKept ∧ State.reset.RecordsKept ∧ State.reset.KeysKept ∧ State.reset.TripsKept
    ∧ State.reset.MapsKept ∧ State.reset.ServiceKept ∧ State.reset.TagsKept ∧ State.reset.WaitingKept
    ∧ State.reset.QueueKept

/-- Every step keeps the clock's readings in their ranges and an ENDED or UNSET clock at its held reading. -/
def Obligations.StepsKeepTheClockInRange : Prop := ∀ s t : State, s.ClockKept → step s = .next t → t.ClockKept

/-- Every step keeps the store's form and the occupancy count equal to the number of occupied slots. -/
def Obligations.StepsKeepTheOccupancy : Prop := ∀ s t : State, s.StoreKept → step s = .next t → t.StoreKept

/-- Every step keeps a budget at 0 exactly in SPENT records, and a LAPSED record's state since at its valid until. -/
def Obligations.StepsKeepRecordsLawful : Prop := ∀ s t : State, s.RecordsKept → step s = .next t → t.RecordsKept

/-- Every step keeps each key in at most one slot, in its home or alternate bucket. -/
def Obligations.StepsKeepKeysUnique : Prop := ∀ s t : State, s.KeysKept → step s = .next t → t.KeysKept

/-- Every step keeps the Trip Table's bounds. -/
def Obligations.StepsKeepTripsBounded : Prop := ∀ s t : State, s.TripsKept → step s = .next t → t.TripsKept

/-- Every step keeps the live map valid and every pattern valid. -/
def Obligations.StepsKeepMapsValid : Prop := ∀ s t : State, s.MapsKept → step s = .next t → t.MapsKept

/-- Every step keeps each lobby's service state the one its drop records give. -/
def Obligations.StepsKeepLobbiesDerived : Prop := ∀ s t : State, s.ServiceKept → step s = .next t → t.ServiceKept

/-- Every step keeps the tags of the OFFERED entries distinct. -/
def Obligations.StepsKeepTagsDistinct : Prop := ∀ s t : State, s.TagsKept → step s = .next t → t.TagsKept

/-- Every step keeps the waiting LOOKUP requests exactly those the entries wait for. -/
def Obligations.StepsKeepRequestsMatched : Prop := ∀ s t : State, s.WaitingKept → step s = .next t → t.WaitingKept

/-- Every step keeps the transmit queue within its limits of notices and LINK CHECKs. -/
def Obligations.StepsKeepTheQueueBounded : Prop := ∀ s t : State, s.QueueKept → step s = .next t → t.QueueKept
end

