-- ==== Sys2Proof/Laws/Bytes.lean ====
section
/-! SUPPORT. Laws of numbers in bytes (R184): what is written is read back, and what is read is what was written. -/

namespace Sys2Proof.Machine

@[simp] theorem byte1_toNat {n : Nat} (h : n < 256) : (byte1 n).toNat = n := by
  simp [byte1, BitVec.toNat_ofNat, Nat.mod_eq_of_lt h]

@[simp] theorem byte1_of_toNat (b : Byte) : byte1 b.toNat = b := by simp [byte1]

theorem byte1_inj {m n : Nat} (hm : m < 256) (hn : n < 256) (h : byte1 m = byte1 n) : m = n := by
  have := congrArg BitVec.toNat h
  rwa [byte1_toNat hm, byte1_toNat hn] at this

theorem byte1_eq_iff {n : Nat} (h : n < 256) (b : Byte) : byte1 n = b ↔ b.toNat = n := by
  constructor
  · rintro rfl; exact byte1_toNat h
  · rintro rfl; exact byte1_of_toNat b

@[simp] theorem be_length (n v : Nat) : (be n v).length = n := by
  induction n generalizing v with
  | zero => rfl
  | succ n ih => simp [be, ih]

theorem num_append (l : List Byte) (b : Byte) : num (l ++ [b]) = num l * 256 + b.toNat := by
  simp [num, List.foldl_append]

@[simp] theorem num_nil : num [] = 0 := rfl

theorem num_be {n v : Nat} (h : v < 256 ^ n) : num (be n v) = v := by
  induction n generalizing v with
  | zero => simp_all [be]
  | succ n ih =>
    have h' : v / 256 < 256 ^ n := by
      rw [Nat.div_lt_iff_lt_mul (by decide)]; simpa [Nat.pow_succ] using h
    simp only [be, num_append, ih h', BitVec.toNat_ofNat]
    omega

theorem num_lt (l : List Byte) : num l < 256 ^ l.length := by
  induction l using List.reverseRecOn with
  | nil => simp
  | append_singleton l b ih =>
    rw [num_append, List.length_append, List.length_singleton, Nat.pow_succ]
    have := b.isLt
    omega

theorem be_num (l : List Byte) : be l.length (num l) = l := by
  induction l using List.reverseRecOn with
  | nil => rfl
  | append_singleton l b ih =>
    have hb := b.isLt
    rw [List.length_append, List.length_singleton, num_append, be]
    have h1 : (num l * 256 + b.toNat) / 256 = num l := by omega
    rw [h1, ih]
    congr 2
    apply BitVec.eq_of_toNat_eq
    simp only [BitVec.toNat_ofNat]
    omega

theorem be_num_of_length {l : List Byte} {n : Nat} (h : l.length = n) : be n (num l) = l := by
  subst h; exact be_num l

theorem be_inj {n v w : Nat} (hv : v < 256 ^ n) (hw : w < 256 ^ n) (h : be n v = be n w) : v = w := by
  rw [← num_be hv, ← num_be hw, h]

theorem num_pair (a b : Byte) : num [a, b] = a.toNat * 256 + b.toNat := by simp [num]

theorem be_two {v : Nat} : be 2 v = [BitVec.ofNat 8 (v / 256), BitVec.ofNat 8 v] := by simp [be]

theorem be_two_num (a b : Byte) : be 2 (num [a, b]) = [a, b] := be_num_of_length (by rfl)

theorem num_pair_lt (a b : Byte) : num [a, b] < 65536 := by
  have := num_lt [a, b]
  simpa using this

end Sys2Proof.Machine
end

