-- ==== Sys2Proof/Laws/Readers.lean ====
section
/-! SUPPORT. Laws of the argument readers (R192 to R195): each reads exactly the bytes that its writer in Safety.lean writes. -/

namespace Sys2Proof.Machine

/-! ## One byte -/

/-- A byte is the code of a value exactly where it is the value's byte. -/
theorem eq_byte1_iff {n : Nat} (h : n < 256) (b : Byte) : b = byte1 n ↔ b.toNat = n := by
  rw [← byte1_eq_iff h b]; exact eq_comm

theorem readYesNo_iff (b : Byte) (x : Bool) : readYesNo b = some x ↔ b = yesNo x := by
  cases x <;> simp only [readYesNo, yesNo] <;> split_ifs with h1 h2 <;> simp_all

theorem readId_iff {n : Nat} (hn : n ≤ 256) (b : Byte) (i : Fin n) : readId n b = some i ↔ b = byte1 i := by
  rw [eq_byte1_iff (by have := i.isLt; omega)]
  unfold readId
  split_ifs with h
  · simp only [Option.some.injEq, Fin.ext_iff]
  · have := i.isLt
    constructor
    · simp
    · omega

theorem readOptGroup_iff (b : Byte) (g : Option (Fin 12)) : readOptGroup b = some g ↔ b = Args.optional g := by
  unfold readOptGroup
  by_cases h : b = 255
  · subst h
    cases g with
    | none => simp [Args.optional]
    | some g => revert g; decide
  · rw [if_neg h, Option.map_eq_some_iff]
    cases g with
    | none => simpa [Args.optional] using h
    | some g => simp [Args.optional, readId_iff]

theorem readOptZone_iff (b : Byte) (z : Option (Fin 8)) : readOptZone b = some z ↔ b = Args.optional z := by
  unfold readOptZone
  by_cases h : b = 255
  · subst h
    cases z with
    | none => simp [Args.optional]
    | some z => revert z; decide
  · rw [if_neg h, Option.map_eq_some_iff]
    cases z with
    | none => simpa [Args.optional] using h
    | some z => simp [Args.optional, readId_iff]

theorem readAddress_iff (b : Byte) (d : Fin 28) : readAddress b = some d ↔ b = byte1 (d.val + 1) := by
  rw [eq_byte1_iff (by omega)]
  unfold readAddress
  split_ifs with h
  · simp only [Option.some.injEq, Fin.ext_iff]; omega
  · constructor
    · simp
    · omega

theorem readLinkDrop_iff (a b : Byte) (v : Fin 4 × Fin 28) :
    readLinkDrop a b = some v ↔ a = byte1 v.1 ∧ b = byte1 (v.2.val + 1) := by
  rw [← readId_iff (by decide) a v.1, ← readAddress_iff]
  unfold readLinkDrop
  cases readId 4 a <;> cases readAddress b <;> simp [Prod.ext_iff]

theorem readLiveState_iff (b : Byte) (x : RecordState) :
    readLiveState b = some x ↔ (x = .active ∧ b = 1) ∨ (x = .suspended ∧ b = 2) := by
  have h1 : b = 1 ↔ b.toNat = 1 := eq_byte1_iff (n := 1) (by decide) b
  have h2 : b = 2 ↔ b.toNat = 2 := eq_byte1_iff (n := 2) (by decide) b
  rw [h1, h2]
  unfold readLiveState
  rcases hb : b.toNat with _ | _ | _ | _ | _ | n <;> simp [RecordState.ofCode, eq_comm]

/-! ## Codes (R184) -/

theorem TurnClass.ofCode_iff (n : Nat) (x : TurnClass) : TurnClass.ofCode n = some x ↔ n = x.code := by
  rcases n with _ | _ | _ | _ | n <;> cases x <;> simp [TurnClass.ofCode, TurnClass.code]

theorem TickSource.ofCode_iff (n : Nat) (x : TickSource) : TickSource.ofCode n = some x ↔ n = x.code := by
  rcases n with _ | _ | n <;> cases x <;> simp [TickSource.ofCode, TickSource.code]

theorem BuildingMode.ofCode_iff (n : Nat) (x : BuildingMode) : BuildingMode.ofCode n = some x ↔ n = x.code := by
  rcases n with _ | _ | n <;> cases x <;> simp [BuildingMode.ofCode, BuildingMode.code]

theorem Granularity.ofCode_iff (n : Nat) (x : Granularity) : Granularity.ofCode n = some x ↔ n = x.code := by
  rcases n with _ | _ | n <;> cases x <;> simp [Granularity.ofCode, Granularity.code]

theorem AttnMode.ofCode_iff (n : Nat) (x : AttnMode) : AttnMode.ofCode n = some x ↔ n = x.code := by
  rcases n with _ | _ | n <;> cases x <;> simp [AttnMode.ofCode, AttnMode.code]

theorem Fallback.ofCode_iff (n : Nat) (x : Fallback) : Fallback.ofCode n = some x ↔ n = x.code := by
  rcases n with _ | _ | n <;> cases x <;> simp [Fallback.ofCode, Fallback.code]

theorem HolderClass.ofCode_iff (n : Nat) (x : HolderClass) : HolderClass.ofCode n = some x ↔ n = x.code := by
  rcases n with _ | _ | _ | _ | n <;> cases x <;> simp [HolderClass.ofCode, HolderClass.code]

theorem Kind.ofCode_iff (n : Nat) (x : Kind) : Kind.ofCode n = some x ↔ n = x.code := by
  rcases n with _ | _ | _ | n <;> cases x <;> simp [Kind.ofCode, Kind.code]

theorem groupStateOfCode_iff (n : Nat) (x : GroupState) : groupStateOfCode n = some x ↔ n = groupStateCode x := by
  rcases n with _ | _ | _ | n <;> cases x <;> simp [groupStateOfCode, groupStateCode]

theorem declineReasonOfCode_iff (n : Nat) (x : DeclineReason) : declineReasonOfCode n = some x ↔ n = declineReasonCode x := by
  rcases n with _ | _ | _ | _ | n <;> cases x <;> simp [declineReasonOfCode, declineReasonCode]

/-! ## Lists -/

/-- What reading that many numbers gives. -/
theorem readNumbers_iff (n : Nat) (bytes : List Byte) (l : List Nat) :
    readNumbers n bytes = some l ↔ l.length = n ∧ (∀ v ∈ l, v < 65536) ∧ bytes = l.flatMap (be 2) := by
  induction n generalizing bytes l with
  | zero =>
    cases bytes with
    | nil => cases l <;> simp [readNumbers]
    | cons a t =>
      cases l with
      | nil => simp [readNumbers]
      | cons => simp [readNumbers]
  | succ n ih =>
    match bytes with
    | [] =>
      cases l with
      | nil => simp [readNumbers]
      | cons => simp [readNumbers, be_two]
    | [a] =>
      cases l with
      | nil => simp [readNumbers]
      | cons => simp [readNumbers, be_two]
    | a :: b :: rest =>
      simp only [readNumbers, Option.map_eq_some_iff, ih]
      constructor
      · rintro ⟨t, ⟨h1, h2, h3⟩, rfl⟩
        refine ⟨by simp [h1], ?_, ?_⟩
        · intro v hv
          rcases List.mem_cons.1 hv with rfl | hv
          · exact num_pair_lt a b
          · exact h2 v hv
        · rw [List.flatMap_cons, be_two_num, ← h3]; rfl
      · rintro ⟨h1, h2, h3⟩
        cases l with
        | nil => simp at h1
        | cons v t =>
          rw [List.flatMap_cons, be_two, List.cons_append, List.cons_append, List.nil_append] at h3
          simp only [List.cons.injEq] at h3
          obtain ⟨ha, hb, hr⟩ := h3
          refine ⟨t, ⟨by simpa using h1, fun w hw => h2 w (List.mem_cons_of_mem _ hw), hr⟩, ?_⟩
          have : num [a, b] = v := by
            rw [ha, hb, ← be_two]
            exact num_be (by have := h2 v List.mem_cons_self; simpa using this)
          rw [this]

/-- What reading that many windows gives. -/
theorem readWindows_iff (n : Nat) (bytes : List Byte) (l : List Window) :
    readWindows n bytes = some l
      ↔ l.length = n ∧ (∀ w ∈ l, w.start < 65536 ∧ w.stop < 65536) ∧ bytes = l.flatMap Args.window := by
  induction n generalizing bytes l with
  | zero =>
    cases bytes <;> cases l <;> simp [readWindows]
  | succ n ih =>
    match bytes with
    | [] | [_] | [_, _] | [_, _, _] | [_, _, _, _] =>
      cases l <;> simp [readWindows, Args.window, be_two]
    | d :: s1 :: s0 :: t1 :: t0 :: rest =>
      simp only [readWindows, Option.map_eq_some_iff, ih]
      constructor
      · rintro ⟨t, ⟨h1, h2, h3⟩, rfl⟩
        refine ⟨by simp [h1], ?_, ?_⟩
        · intro w hw
          rcases List.mem_cons.1 hw with rfl | hw
          · exact ⟨num_pair_lt _ _, num_pair_lt _ _⟩
          · exact h2 w hw
        · rw [List.flatMap_cons, ← h3]; simp [Args.window, be_two_num]
      · rintro ⟨h1, h2, h3⟩
        cases l with
        | nil => simp at h1
        | cons w t =>
          obtain ⟨wd, ws, we⟩ := w
          have hw := h2 _ List.mem_cons_self
          simp only [List.flatMap_cons, Args.window, be_two, List.cons_append, List.nil_append, List.cons.injEq] at h3
          obtain ⟨hd, ha, hb, hc, he, hr⟩ := h3
          refine ⟨t, ⟨by simpa using h1, fun w hw => h2 w (List.mem_cons_of_mem _ hw), hr⟩, ?_⟩
          have e1 : num [s1, s0] = ws := by rw [ha, hb, ← be_two]; exact num_be (by simpa using hw.1)
          have e2 : num [t1, t0] = we := by rw [hc, he, ← be_two]; exact num_be (by simpa using hw.2)
          rw [e1, e2, hd]

/-- What reading a floor list gives: the floors and the bytes behind them. -/
theorem readFloorList_iff (bytes : List Byte) (l : List Nat) (rest : List Byte) :
    readFloorList bytes = some (l, rest)
      ↔ l.length ≤ 160 ∧ (∀ f ∈ l, f < 256) ∧ bytes = Args.floors l ++ rest := by
  cases bytes with
  | nil => simp [readFloorList, Args.floors]
  | cons n t =>
    have hr : readFloorList (n :: t)
        = if n.toNat ≤ 160 ∧ n.toNat ≤ t.length then some ((t.take n.toNat).map BitVec.toNat, t.drop n.toNat) else none := rfl
    rw [hr]
    constructor
    · intro h
      split_ifs at h with hc
      simp only [Option.some.injEq, Prod.mk.injEq] at h
      obtain ⟨rfl, rfl⟩ := h
      refine ⟨by simp; omega, ?_, ?_⟩
      · intro f hf
        obtain ⟨b, _, rfl⟩ := List.mem_map.1 hf
        exact b.isLt
      · simp [Args.floors, Nat.min_eq_left hc.2, Function.comp_def]
    · rintro ⟨h1, h2, h3⟩
      simp only [Args.floors, List.cons_append, List.cons.injEq] at h3
      obtain ⟨rfl, rfl⟩ := h3
      rw [byte1_toNat (by omega), if_pos ⟨h1, by simp⟩, List.take_append_of_le_length (by simp),
        List.take_of_length_le (by simp), List.drop_append_of_le_length (by simp), List.drop_of_length_le (by simp)]
      have : (l.map byte1).map BitVec.toNat = l := by
        rw [List.map_map]
        conv_rhs => rw [← List.map_id l]
        exact List.map_congr_left fun f hf => byte1_toNat (h2 f hf)
      rw [this, List.nil_append]

theorem mem_floorSet (l : List Nat) (f : Nat) : f ∈ floorSet l ↔ f < 160 ∧ f ∈ l := by
  simp [floorSet, Config.floors]

theorem floorSet_eq (l : List Nat) : floorSet l = (List.range 160).filter fun f => decide (f ∈ l) := by
  simp [floorSet, Config.floors]

/-- What reading eight turn classes gives. -/
theorem readPattern_iff (bytes : List Byte) (p : Pattern) :
    readPattern bytes = some p ↔ bytes = p.toList.map fun c => byte1 c.code := by
  have hcode : ∀ (b : Byte) (c : TurnClass), TurnClass.ofCode b.toNat = some c ↔ b = byte1 c.code := by
    intro b c
    rw [TurnClass.ofCode_iff, eq_byte1_iff (by cases c <;> decide)]
  have hp : ∀ a b c d e f g h : TurnClass,
      readPattern (([a, b, c, d, e, f, g, h].map fun c => byte1 c.code)) = some #v[a, b, c, d, e, f, g, h] := by
    intro a b c d e f g h
    have : ∀ c : TurnClass, TurnClass.ofCode (byte1 c.code).toNat = some c := fun c => (hcode _ _).2 rfl
    simp only [readPattern, List.map_cons, List.map_nil, this]
  have he : ∃ a b c d e f g h, p = #v[a, b, c, d, e, f, g, h] := by
    refine ⟨p[0], p[1], p[2], p[3], p[4], p[5], p[6], p[7], ?_⟩
    ext i hi
    match i, hi with
    | 0, _ | 1, _ | 2, _ | 3, _ | 4, _ | 5, _ | 6, _ | 7, _ => rfl
  constructor
  · intro h
    unfold readPattern at h
    split at h
    · rename_i a b c d e f g k hl
      simp only [Option.some.injEq] at h
      subst h
      have hlen : bytes.length = 8 := by simpa using congrArg List.length hl
      match bytes, hlen, hl with
      | [x1, x2, x3, x4, x5, x6, x7, x8], _, hl =>
        simp only [List.map_cons, List.map_nil, List.cons.injEq, hcode, and_true] at hl
        obtain ⟨rfl, rfl, rfl, rfl, rfl, rfl, rfl, rfl⟩ := hl
        rfl
    · simp at h
  · rintro rfl
    obtain ⟨a, b, c, d, e, f, g, h, rfl⟩ := he
    exact hp a b c d e f g h

end Sys2Proof.Machine
end

