-- ==== Sys2Proof/Laws/Frames.lean ====
section
/-! SUPPORT. Laws of the frames: the sum of a COMMAND frame and what is read from it (R171, R191), the link check and what is
read from a dispatch frame (R185, R189). -/

namespace Sys2Proof.Machine

/-! ## COMMAND frames -/

theorem sum_foldl (l : List Byte) (n : Nat) : l.foldl (fun a b => a + b.toNat) n = n + (l.map BitVec.toNat).sum := by
  induction l generalizing n with
  | nil => simp
  | cons a l ih => simp [ih]; omega

theorem byteSum_eq (l : List Byte) : byteSum l = (l.map BitVec.toNat).sum % 256 := by simp [byteSum, sum_foldl]

theorem byteSum_lt (l : List Byte) : byteSum l < 256 := Nat.mod_lt _ (by decide)

/-- The check byte that brings a frame's sum to 0 mod 256 is one value. -/
theorem byteSum_append_check (head : List Byte) (c : Byte) :
    byteSum (head ++ [c]) = 0 ↔ c = byte1 (256 - byteSum head) := by
  have hc := c.isLt
  have hl := byteSum_lt head
  have hsum : byteSum (head ++ [c]) = (byteSum head + c.toNat) % 256 := by simp [byteSum_eq]
  rw [hsum]
  constructor
  · intro h
    apply BitVec.eq_of_toNat_eq
    simp only [byte1, BitVec.toNat_ofNat]
    omega
  · rintro rfl
    simp only [byte1, BitVec.toNat_ofNat]
    omega

/-- A COMMAND frame is good exactly where its bytes are those of its code and arguments. -/
theorem goodCommand_iff (l : List Byte) (code : Byte) (args : List Byte) :
    goodCommand l = some (code, args)
      ↔ args.length ≤ 255 ∧ Config.commandKind :: l = commandBytes code args := by
  match l with
  | [] => simp [goodCommand, commandBytes]
  | [_] => simp [goodCommand, commandBytes]
  | k :: n :: rest =>
    have hg : goodCommand (k :: n :: rest)
        = if rest.length = n.toNat + 1 ∧ byteSum (k :: n :: rest) = 0 then some (k, rest.take n.toNat) else none := rfl
    rw [hg]
    constructor
    · intro h
      split_ifs at h with hc
      simp only [Option.some.injEq, Prod.mk.injEq] at h
      obtain ⟨rfl, rfl⟩ := h
      have hn := n.isLt
      have hlen : (rest.take n.toNat).length = n.toNat := by simp; omega
      refine ⟨by omega, ?_⟩
      obtain ⟨c, hr⟩ : ∃ c, rest = rest.take n.toNat ++ [c] := by
        have hd : (rest.drop n.toNat).length = 1 := by simp; omega
        obtain ⟨c, hc'⟩ := List.length_eq_one_iff.1 hd
        exact ⟨c, by rw [← hc', List.take_append_drop]⟩
      have hs : byteSum ((k :: n :: rest.take n.toNat) ++ [c]) = 0 := by
        rw [List.cons_append, List.cons_append, ← hr]; exact hc.2
      rw [byteSum_append_check] at hs
      simp only [commandBytes, hlen, byte1_of_toNat]
      rw [← hs, List.cons_append, List.cons_append, List.cons_append, ← hr]
    · rintro ⟨ha, h⟩
      simp only [commandBytes, List.cons_append, List.cons.injEq, true_and] at h
      obtain ⟨rfl, rfl, rfl⟩ := h
      rw [byte1_toNat (by omega), if_pos]
      · simp
      · refine ⟨by simp, ?_⟩
        have := (byteSum_append_check (k :: byte1 args.length :: args)
          (byte1 (256 - byteSum (k :: byte1 args.length :: args)))).2 rfl
        simpa using this

/-! ## Dispatch frames -/

/-- Bytes are read as a dispatch frame exactly where they are the frame of a known type with fields of its form. -/
theorem readDispatch_iff (bytes : List Byte) (i : Instr) :
    readDispatch bytes = some i
      ↔ ∃ type fields, fields.length ≤ 7 ∧ bytes = frame (type :: byte1 fields.length :: fields)
          ∧ dispatchContent type fields = some i := by
  match bytes with
  | [] | [_] | [_, _] => simp [readDispatch, frame]
  | start :: type :: len :: rest =>
    have hg : readDispatch (start :: type :: len :: rest)
        = if start = Config.startByte ∧ len.toNat ≤ 7 ∧ rest.length = len.toNat + 2
            ∧ rest.drop len.toNat = linkCheck (type :: len :: rest.take len.toNat) then
          dispatchContent type (rest.take len.toNat) else none := rfl
    rw [hg]
    constructor
    · intro h
      split_ifs at h with hc
      obtain ⟨rfl, h7, hl, hd⟩ := hc
      have hlen : (rest.take len.toNat).length = len.toNat := by simp; omega
      refine ⟨type, rest.take len.toNat, by omega, ?_, h⟩
      rw [hlen, byte1_of_toNat, frame, ← hd]
      simp
    · rintro ⟨t, fields, h7, hb, hcont⟩
      simp only [frame, List.cons_append, List.cons.injEq] at hb
      obtain ⟨rfl, rfl, rfl, rfl⟩ := hb
      rw [byte1_toNat (by omega), if_pos]
      · simpa using hcont
      · refine ⟨rfl, h7, by simp [linkCheck], by simp⟩

end Sys2Proof.Machine
end

