-- ==== Sys2Proof/Laws/Port.lean ====
section
/-! SUPPORT. Laws of the life of a maintenance command: what taking, refusing and ending a command do, said once. -/

namespace Sys2Proof.Machine

@[simp] theorem Source.mask_dropChange : Source.mask .dropChange = 1#8 := by decide
@[simp] theorem Source.mask_tamper : Source.mask .tamper = 2#8 := by decide
@[simp] theorem Source.mask_lobbyChange : Source.mask .lobbyChange = 4#8 := by decide
@[simp] theorem Source.mask_dispatchChange : Source.mask .dispatchChange = 8#8 := by decide
@[simp] theorem Source.mask_sweepDone : Source.mask .sweepDone = 16#8 := by decide
@[simp] theorem Source.mask_nearFull : Source.mask .nearFull = 32#8 := by decide
@[simp] theorem Source.mask_commandDone : Source.mask .commandDone = 64#8 := by decide
@[simp] theorem Source.mask_clockEnd : Source.mask .clockEnd = 128#8 := by decide

theorem padded_append_zeros (n : Nat) (l : List Byte) (h : l.length ≤ n) :
    padded n l = l ++ List.replicate (n - l.length) 0 := by
  simp [padded, List.take_append, List.take_of_length_le h, List.take_replicate]

theorem padded_singleton (n : Nat) (b : Byte) : padded (n + 1) [b] = b :: List.replicate n 0 := by
  rw [padded_append_zeros _ _ (by simp)]; simp

/-- The port takes no transaction exactly where it does not hear one. -/
theorem State.portShut_eq_true_iff (s : State) (fell : Fall) : s.portShut fell = true ↔ ¬ s.Hears fell := by
  cases h : s.inReset <;> simp [State.portShut, State.Hears, h]

theorem State.portShut_of_hears {s : State} {fell : Fall} (h : s.Hears fell) : s.portShut fell = false := by
  rw [← Bool.not_eq_true, State.portShut_eq_true_iff]
  exact fun hn => hn h

/-- Ending a command is `ended`. -/
theorem State.finish_eq (s : State) (code : ResultCode) (bytes : List Byte) : s.finish code bytes = s.ended code bytes := by
  simp [State.finish, State.ended, Attention.raise]

theorem State.finishPlain_eq (s : State) (code : ResultCode) : s.finishPlain code = s.ended code [] := by
  simp [State.finishPlain, State.finish_eq]

/-- Clocking out and taking a command is `taken`. -/
theorem State.take_clockOut (s : State) (fell : Fall) (n : Nat) : (s.clockOut fell (n + 4) []).take = s.taken fell n := by
  simp [State.clockOut, State.take, State.taken, Attention.clear, padded_singleton]

/-- A good COMMAND frame that is taken is carried to its body. -/
theorem State.command_ready {s : State} {fell : Fall} (h : s.Ready fell) (args : List Byte) (body : State → State) :
    s.command fell args body = .next (body (s.taken fell args.length)) := by
  obtain ⟨h1, h2⟩ := h
  simp only [State.command, State.portShut_of_hears h1, Bool.false_eq_true, if_false]
  rw [if_neg (by simpa [State.clockOut] using h2), State.take_clockOut]

/-- In reset, and where chip select fell before its end, a COMMAND frame is no event. -/
theorem State.command_shut {s : State} {fell : Fall} (h : s.portShut fell = true) (args : List Byte)
    (body : State → State) : s.command fell args body = .next s := by simp [State.command, h]

/-- In WORKING a COMMAND frame only writes the outcome REFUSED_BUSY. -/
theorem State.command_working {s : State} {fell : Fall} (h : s.Hears fell) (hw : s.port.engine = .working)
    (args : List Byte) (body : State → State) :
    s.command fell args body
      = .next { s with
          port := { s.port with
            outcome := .refusedBusy, out := s.statusByte fell :: List.replicate (args.length + 3) 0 } } := by
  simp [State.command, State.portShut_of_hears h, State.clockOut, hw, padded_singleton]

/-- Everything a COMMAND frame can do: nothing while the port takes none, a refusal in WORKING, or its body on the state after
the taking. -/
theorem State.command_cases (s : State) (fell : Fall) (args : List Byte) (body : State → State) :
    (s.portShut fell = true ∧ s.command fell args body = .next s)
      ∨ (s.Hears fell ∧ s.port.engine = .working ∧ s.command fell args body
          = .next { s with
              port := { s.port with
                outcome := .refusedBusy, out := s.statusByte fell :: List.replicate (args.length + 3) 0 } })
      ∨ (s.Ready fell ∧ s.command fell args body = .next (body (s.taken fell args.length))) := by
  by_cases hr : s.portShut fell = true
  · exact .inl ⟨hr, State.command_shut hr args body⟩
  · rw [State.portShut_eq_true_iff, Classical.not_not] at hr
    by_cases hw : s.port.engine = .working
    · exact .inr (.inl ⟨hr, hw, State.command_working hr hw args body⟩)
    · exact .inr (.inr ⟨⟨hr, hw⟩, State.command_ready ⟨hr, hw⟩ args body⟩)

/-- A command whose body reads its arguments by `read`, where reading undoes writing and reads nothing else, ends at once. -/
theorem endsAtOnce_of_read {α β : Type} {make : Fall → List Byte → Instr} {write : α → List Byte} {valid : α → Prop}
    {effect : α → State → State} (read : List Byte → Option β) (result : β → State → State)
    (hexec : ∀ fell args s, exec (make fell args) s
      = s.command fell args fun t => match read args with
          | some v => result v t
          | none => t.finishPlain .badArg)
    (hwrite : ∀ v, valid v → ∃ x, read (write v) = some x ∧ ∀ t, result x t = effect v t)
    (hread : ∀ args x, read args = some x → ∃ v, valid v ∧ args = write v) :
    EndsAtOnce make write valid effect := by
  intro fell s hs
  refine ⟨fun v hv => ?_, fun args hargs => ?_⟩
  · obtain ⟨x, hx, he⟩ := hwrite v hv
    rw [hexec, State.command_ready hs, hx, ← he]
  · rw [hexec, State.command_ready hs]
    cases hx : read args with
    | none => simp [State.finishPlain_eq]
    | some x =>
      obtain ⟨v, hv, rfl⟩ := hread args x hx
      exact absurd rfl (hargs v hv)

end Sys2Proof.Machine
end

