-- ==== Sys2Proof/Laws/State.lean ====
section
/-! SUPPORT. What each named update of the state leaves in each field: one lemma per field per update, so that no proof unfolds a
record update. -/

namespace Sys2Proof.Machine

/-! ## raise -/

@[simp] theorem State.raise_store (s : State) (x : Source) : (s.raise x).store = s.store := rfl
@[simp] theorem State.raise_banks (s : State) (x : Source) : (s.raise x).banks = s.banks := rfl
@[simp] theorem State.raise_clock (s : State) (x : Source) : (s.raise x).clock = s.clock := rfl
@[simp] theorem State.raise_holidays (s : State) (x : Source) : (s.raise x).holidays = s.holidays := rfl
@[simp] theorem State.raise_profiles (s : State) (x : Source) : (s.raise x).profiles = s.profiles := rfl
@[simp] theorem State.raise_live (s : State) (x : Source) : (s.raise x).live = s.live := rfl
@[simp] theorem State.raise_staged (s : State) (x : Source) : (s.raise x).staged = s.staged := rfl
@[simp] theorem State.raise_lobbies (s : State) (x : Source) : (s.raise x).lobbies = s.lobbies := rfl
@[simp] theorem State.raise_entries (s : State) (x : Source) : (s.raise x).entries = s.entries := rfl
@[simp] theorem State.raise_settings (s : State) (x : Source) : (s.raise x).settings = s.settings := rfl
@[simp] theorem State.raise_emg (s : State) (x : Source) : (s.raise x).emg = s.emg := rfl
@[simp] theorem State.raise_links (s : State) (x : Source) : (s.raise x).links = s.links := rfl
@[simp] theorem State.raise_service (s : State) (x : Source) : (s.raise x).service = s.service := rfl
@[simp] theorem State.raise_watch (s : State) (x : Source) : (s.raise x).watch = s.watch := rfl
@[simp] theorem State.raise_dispatch (s : State) (x : Source) : (s.raise x).dispatch = s.dispatch := rfl
@[simp] theorem State.raise_trips (s : State) (x : Source) : (s.raise x).trips = s.trips := rfl
@[simp] theorem State.raise_sweeper (s : State) (x : Source) : (s.raise x).sweeper = s.sweeper := rfl
@[simp] theorem State.raise_port (s : State) (x : Source) : (s.raise x).port = s.port := rfl
@[simp] theorem State.raise_attention (s : State) (x : Source) : (s.raise x).attention = s.attention.raise x := rfl
@[simp] theorem State.raise_inReset (s : State) (x : Source) : (s.raise x).inReset = s.inReset := rfl
@[simp] theorem State.raise_reference (s : State) (x : Source) : (s.raise x).reference = s.reference := rfl
@[simp] theorem State.raise_pending (s : State) (x : Source) : (s.raise x).pending = s.pending := rfl

/-! ## setEntry -/

@[simp] theorem State.setEntry_store (s : State) (e : Fin 64) (x : Option Entry) : (s.setEntry e x).store = s.store := rfl
@[simp] theorem State.setEntry_banks (s : State) (e : Fin 64) (x : Option Entry) : (s.setEntry e x).banks = s.banks := rfl
@[simp] theorem State.setEntry_clock (s : State) (e : Fin 64) (x : Option Entry) : (s.setEntry e x).clock = s.clock := rfl
@[simp] theorem State.setEntry_holidays (s : State) (e : Fin 64) (x : Option Entry) :
    (s.setEntry e x).holidays = s.holidays := rfl
@[simp] theorem State.setEntry_profiles (s : State) (e : Fin 64) (x : Option Entry) :
    (s.setEntry e x).profiles = s.profiles := rfl
@[simp] theorem State.setEntry_live (s : State) (e : Fin 64) (x : Option Entry) : (s.setEntry e x).live = s.live := rfl
@[simp] theorem State.setEntry_staged (s : State) (e : Fin 64) (x : Option Entry) :
    (s.setEntry e x).staged = s.staged := rfl
@[simp] theorem State.setEntry_lobbies (s : State) (e : Fin 64) (x : Option Entry) :
    (s.setEntry e x).lobbies = s.lobbies := rfl
@[simp] theorem State.setEntry_entries (s : State) (e : Fin 64) (x : Option Entry) :
    (s.setEntry e x).entries = s.entries.set e x := rfl
@[simp] theorem State.setEntry_settings (s : State) (e : Fin 64) (x : Option Entry) :
    (s.setEntry e x).settings = s.settings := rfl
@[simp] theorem State.setEntry_emg (s : State) (e : Fin 64) (x : Option Entry) : (s.setEntry e x).emg = s.emg := rfl
@[simp] theorem State.setEntry_links (s : State) (e : Fin 64) (x : Option Entry) : (s.setEntry e x).links = s.links := rfl
@[simp] theorem State.setEntry_service (s : State) (e : Fin 64) (x : Option Entry) :
    (s.setEntry e x).service = s.service := rfl
@[simp] theorem State.setEntry_watch (s : State) (e : Fin 64) (x : Option Entry) : (s.setEntry e x).watch = s.watch := rfl
@[simp] theorem State.setEntry_dispatch (s : State) (e : Fin 64) (x : Option Entry) :
    (s.setEntry e x).dispatch = s.dispatch := rfl
@[simp] theorem State.setEntry_trips (s : State) (e : Fin 64) (x : Option Entry) : (s.setEntry e x).trips = s.trips := rfl
@[simp] theorem State.setEntry_sweeper (s : State) (e : Fin 64) (x : Option Entry) :
    (s.setEntry e x).sweeper = s.sweeper := rfl
@[simp] theorem State.setEntry_port (s : State) (e : Fin 64) (x : Option Entry) : (s.setEntry e x).port = s.port := rfl
@[simp] theorem State.setEntry_attention (s : State) (e : Fin 64) (x : Option Entry) :
    (s.setEntry e x).attention = s.attention := rfl
@[simp] theorem State.setEntry_inReset (s : State) (e : Fin 64) (x : Option Entry) :
    (s.setEntry e x).inReset = s.inReset := rfl
@[simp] theorem State.setEntry_reference (s : State) (e : Fin 64) (x : Option Entry) :
    (s.setEntry e x).reference = s.reference := rfl
@[simp] theorem State.setEntry_pending (s : State) (e : Fin 64) (x : Option Entry) :
    (s.setEntry e x).pending = s.pending := rfl

/-! ## setDrop -/

@[simp] theorem State.setDrop_store (s : State) (l : Fin 4) (d : Fin 28) (x : Drop) :
    (s.setDrop l d x).store = s.store := rfl
@[simp] theorem State.setDrop_banks (s : State) (l : Fin 4) (d : Fin 28) (x : Drop) :
    (s.setDrop l d x).banks = s.banks := rfl
@[simp] theorem State.setDrop_clock (s : State) (l : Fin 4) (d : Fin 28) (x : Drop) :
    (s.setDrop l d x).clock = s.clock := rfl
@[simp] theorem State.setDrop_holidays (s : State) (l : Fin 4) (d : Fin 28) (x : Drop) :
    (s.setDrop l d x).holidays = s.holidays := rfl
@[simp] theorem State.setDrop_profiles (s : State) (l : Fin 4) (d : Fin 28) (x : Drop) :
    (s.setDrop l d x).profiles = s.profiles := rfl
@[simp] theorem State.setDrop_live (s : State) (l : Fin 4) (d : Fin 28) (x : Drop) :
    (s.setDrop l d x).live = s.live := rfl
@[simp] theorem State.setDrop_staged (s : State) (l : Fin 4) (d : Fin 28) (x : Drop) :
    (s.setDrop l d x).staged = s.staged := rfl
@[simp] theorem State.setDrop_lobbies (s : State) (l : Fin 4) (d : Fin 28) (x : Drop) :
    (s.setDrop l d x).lobbies = s.lobbies := rfl
@[simp] theorem State.setDrop_entries (s : State) (l : Fin 4) (d : Fin 28) (x : Drop) :
    (s.setDrop l d x).entries = s.entries := rfl
@[simp] theorem State.setDrop_settings (s : State) (l : Fin 4) (d : Fin 28) (x : Drop) :
    (s.setDrop l d x).settings = s.settings := rfl
@[simp] theorem State.setDrop_emg (s : State) (l : Fin 4) (d : Fin 28) (x : Drop) : (s.setDrop l d x).emg = s.emg := rfl
@[simp] theorem State.setDrop_links (s : State) (l : Fin 4) (d : Fin 28) (x : Drop) :
    (s.setDrop l d x).links = s.links.set l { s.links[l] with drops := s.links[l].drops.set d x } := rfl
@[simp] theorem State.setDrop_service (s : State) (l : Fin 4) (d : Fin 28) (x : Drop) :
    (s.setDrop l d x).service = s.service := rfl
@[simp] theorem State.setDrop_watch (s : State) (l : Fin 4) (d : Fin 28) (x : Drop) :
    (s.setDrop l d x).watch = s.watch := rfl
@[simp] theorem State.setDrop_dispatch (s : State) (l : Fin 4) (d : Fin 28) (x : Drop) :
    (s.setDrop l d x).dispatch = s.dispatch := rfl
@[simp] theorem State.setDrop_trips (s : State) (l : Fin 4) (d : Fin 28) (x : Drop) :
    (s.setDrop l d x).trips = s.trips := rfl
@[simp] theorem State.setDrop_sweeper (s : State) (l : Fin 4) (d : Fin 28) (x : Drop) :
    (s.setDrop l d x).sweeper = s.sweeper := rfl
@[simp] theorem State.setDrop_port (s : State) (l : Fin 4) (d : Fin 28) (x : Drop) :
    (s.setDrop l d x).port = s.port := rfl
@[simp] theorem State.setDrop_attention (s : State) (l : Fin 4) (d : Fin 28) (x : Drop) :
    (s.setDrop l d x).attention = s.attention := rfl
@[simp] theorem State.setDrop_inReset (s : State) (l : Fin 4) (d : Fin 28) (x : Drop) :
    (s.setDrop l d x).inReset = s.inReset := rfl
@[simp] theorem State.setDrop_reference (s : State) (l : Fin 4) (d : Fin 28) (x : Drop) :
    (s.setDrop l d x).reference = s.reference := rfl
@[simp] theorem State.setDrop_pending (s : State) (l : Fin 4) (d : Fin 28) (x : Drop) :
    (s.setDrop l d x).pending = s.pending := rfl

/-! ## queueLookup -/

@[simp] theorem State.queueLookup_store (s : State) (q : LookupRequest) : (s.queueLookup q).store = s.store := rfl
@[simp] theorem State.queueLookup_banks (s : State) (q : LookupRequest) :
    (s.queueLookup q).banks = s.banks.set (bankOf q.bucket)
        { s.banks[bankOf q.bucket] with lookup := s.banks[bankOf q.bucket].lookup ++ [q] } := rfl
@[simp] theorem State.queueLookup_clock (s : State) (q : LookupRequest) : (s.queueLookup q).clock = s.clock := rfl
@[simp] theorem State.queueLookup_holidays (s : State) (q : LookupRequest) :
    (s.queueLookup q).holidays = s.holidays := rfl
@[simp] theorem State.queueLookup_profiles (s : State) (q : LookupRequest) :
    (s.queueLookup q).profiles = s.profiles := rfl
@[simp] theorem State.queueLookup_live (s : State) (q : LookupRequest) : (s.queueLookup q).live = s.live := rfl
@[simp] theorem State.queueLookup_staged (s : State) (q : LookupRequest) : (s.queueLookup q).staged = s.staged := rfl
@[simp] theorem State.queueLookup_lobbies (s : State) (q : LookupRequest) : (s.queueLookup q).lobbies = s.lobbies := rfl
@[simp] theorem State.queueLookup_entries (s : State) (q : LookupRequest) : (s.queueLookup q).entries = s.entries := rfl
@[simp] theorem State.queueLookup_settings (s : State) (q : LookupRequest) :
    (s.queueLookup q).settings = s.settings := rfl
@[simp] theorem State.queueLookup_emg (s : State) (q : LookupRequest) : (s.queueLookup q).emg = s.emg := rfl
@[simp] theorem State.queueLookup_links (s : State) (q : LookupRequest) : (s.queueLookup q).links = s.links := rfl
@[simp] theorem State.queueLookup_service (s : State) (q : LookupRequest) : (s.queueLookup q).service = s.service := rfl
@[simp] theorem State.queueLookup_watch (s : State) (q : LookupRequest) : (s.queueLookup q).watch = s.watch := rfl
@[simp] theorem State.queueLookup_dispatch (s : State) (q : LookupRequest) :
    (s.queueLookup q).dispatch = s.dispatch := rfl
@[simp] theorem State.queueLookup_trips (s : State) (q : LookupRequest) : (s.queueLookup q).trips = s.trips := rfl
@[simp] theorem State.queueLookup_sweeper (s : State) (q : LookupRequest) : (s.queueLookup q).sweeper = s.sweeper := rfl
@[simp] theorem State.queueLookup_port (s : State) (q : LookupRequest) : (s.queueLookup q).port = s.port := rfl
@[simp] theorem State.queueLookup_attention (s : State) (q : LookupRequest) :
    (s.queueLookup q).attention = s.attention := rfl
@[simp] theorem State.queueLookup_inReset (s : State) (q : LookupRequest) : (s.queueLookup q).inReset = s.inReset := rfl
@[simp] theorem State.queueLookup_reference (s : State) (q : LookupRequest) :
    (s.queueLookup q).reference = s.reference := rfl
@[simp] theorem State.queueLookup_pending (s : State) (q : LookupRequest) : (s.queueLookup q).pending = s.pending := rfl

/-! ## queueUpkeep -/

@[simp] theorem State.queueUpkeep_store (s : State) (q : UpkeepRequest) : (s.queueUpkeep q).store = s.store := rfl
@[simp] theorem State.queueUpkeep_banks (s : State) (q : UpkeepRequest) :
    (s.queueUpkeep q).banks = s.banks.set (bankOf q.bucket)
        { s.banks[bankOf q.bucket] with upkeep := s.banks[bankOf q.bucket].upkeep ++ [q] } := rfl
@[simp] theorem State.queueUpkeep_clock (s : State) (q : UpkeepRequest) : (s.queueUpkeep q).clock = s.clock := rfl
@[simp] theorem State.queueUpkeep_holidays (s : State) (q : UpkeepRequest) :
    (s.queueUpkeep q).holidays = s.holidays := rfl
@[simp] theorem State.queueUpkeep_profiles (s : State) (q : UpkeepRequest) :
    (s.queueUpkeep q).profiles = s.profiles := rfl
@[simp] theorem State.queueUpkeep_live (s : State) (q : UpkeepRequest) : (s.queueUpkeep q).live = s.live := rfl
@[simp] theorem State.queueUpkeep_staged (s : State) (q : UpkeepRequest) : (s.queueUpkeep q).staged = s.staged := rfl
@[simp] theorem State.queueUpkeep_lobbies (s : State) (q : UpkeepRequest) : (s.queueUpkeep q).lobbies = s.lobbies := rfl
@[simp] theorem State.queueUpkeep_entries (s : State) (q : UpkeepRequest) : (s.queueUpkeep q).entries = s.entries := rfl
@[simp] theorem State.queueUpkeep_settings (s : State) (q : UpkeepRequest) :
    (s.queueUpkeep q).settings = s.settings := rfl
@[simp] theorem State.queueUpkeep_emg (s : State) (q : UpkeepRequest) : (s.queueUpkeep q).emg = s.emg := rfl
@[simp] theorem State.queueUpkeep_links (s : State) (q : UpkeepRequest) : (s.queueUpkeep q).links = s.links := rfl
@[simp] theorem State.queueUpkeep_service (s : State) (q : UpkeepRequest) : (s.queueUpkeep q).service = s.service := rfl
@[simp] theorem State.queueUpkeep_watch (s : State) (q : UpkeepRequest) : (s.queueUpkeep q).watch = s.watch := rfl
@[simp] theorem State.queueUpkeep_dispatch (s : State) (q : UpkeepRequest) :
    (s.queueUpkeep q).dispatch = s.dispatch := rfl
@[simp] theorem State.queueUpkeep_trips (s : State) (q : UpkeepRequest) : (s.queueUpkeep q).trips = s.trips := rfl
@[simp] theorem State.queueUpkeep_sweeper (s : State) (q : UpkeepRequest) : (s.queueUpkeep q).sweeper = s.sweeper := rfl
@[simp] theorem State.queueUpkeep_port (s : State) (q : UpkeepRequest) : (s.queueUpkeep q).port = s.port := rfl
@[simp] theorem State.queueUpkeep_attention (s : State) (q : UpkeepRequest) :
    (s.queueUpkeep q).attention = s.attention := rfl
@[simp] theorem State.queueUpkeep_inReset (s : State) (q : UpkeepRequest) : (s.queueUpkeep q).inReset = s.inReset := rfl
@[simp] theorem State.queueUpkeep_reference (s : State) (q : UpkeepRequest) :
    (s.queueUpkeep q).reference = s.reference := rfl
@[simp] theorem State.queueUpkeep_pending (s : State) (q : UpkeepRequest) : (s.queueUpkeep q).pending = s.pending := rfl

/-! ## queueSweep -/

@[simp] theorem State.queueSweep_store (s : State) (b : Bucket) : (s.queueSweep b).store = s.store := rfl
@[simp] theorem State.queueSweep_banks (s : State) (b : Bucket) :
    (s.queueSweep b).banks = s.banks.set (bankOf b) { s.banks[bankOf b] with sweep := s.banks[bankOf b].sweep ++ [b] } := rfl
@[simp] theorem State.queueSweep_clock (s : State) (b : Bucket) : (s.queueSweep b).clock = s.clock := rfl
@[simp] theorem State.queueSweep_holidays (s : State) (b : Bucket) : (s.queueSweep b).holidays = s.holidays := rfl
@[simp] theorem State.queueSweep_profiles (s : State) (b : Bucket) : (s.queueSweep b).profiles = s.profiles := rfl
@[simp] theorem State.queueSweep_live (s : State) (b : Bucket) : (s.queueSweep b).live = s.live := rfl
@[simp] theorem State.queueSweep_staged (s : State) (b : Bucket) : (s.queueSweep b).staged = s.staged := rfl
@[simp] theorem State.queueSweep_lobbies (s : State) (b : Bucket) : (s.queueSweep b).lobbies = s.lobbies := rfl
@[simp] theorem State.queueSweep_entries (s : State) (b : Bucket) : (s.queueSweep b).entries = s.entries := rfl
@[simp] theorem State.queueSweep_settings (s : State) (b : Bucket) : (s.queueSweep b).settings = s.settings := rfl
@[simp] theorem State.queueSweep_emg (s : State) (b : Bucket) : (s.queueSweep b).emg = s.emg := rfl
@[simp] theorem State.queueSweep_links (s : State) (b : Bucket) : (s.queueSweep b).links = s.links := rfl
@[simp] theorem State.queueSweep_service (s : State) (b : Bucket) : (s.queueSweep b).service = s.service := rfl
@[simp] theorem State.queueSweep_watch (s : State) (b : Bucket) : (s.queueSweep b).watch = s.watch := rfl
@[simp] theorem State.queueSweep_dispatch (s : State) (b : Bucket) : (s.queueSweep b).dispatch = s.dispatch := rfl
@[simp] theorem State.queueSweep_trips (s : State) (b : Bucket) : (s.queueSweep b).trips = s.trips := rfl
@[simp] theorem State.queueSweep_sweeper (s : State) (b : Bucket) : (s.queueSweep b).sweeper = s.sweeper := rfl
@[simp] theorem State.queueSweep_port (s : State) (b : Bucket) : (s.queueSweep b).port = s.port := rfl
@[simp] theorem State.queueSweep_attention (s : State) (b : Bucket) : (s.queueSweep b).attention = s.attention := rfl
@[simp] theorem State.queueSweep_inReset (s : State) (b : Bucket) : (s.queueSweep b).inReset = s.inReset := rfl
@[simp] theorem State.queueSweep_reference (s : State) (b : Bucket) : (s.queueSweep b).reference = s.reference := rfl
@[simp] theorem State.queueSweep_pending (s : State) (b : Bucket) : (s.queueSweep b).pending = s.pending := rfl

/-! ## removeTrip -/

@[simp] theorem State.removeTrip_store (s : State) (k : Key) : (s.removeTrip k).store = s.store := rfl
@[simp] theorem State.removeTrip_banks (s : State) (k : Key) : (s.removeTrip k).banks = s.banks := rfl
@[simp] theorem State.removeTrip_clock (s : State) (k : Key) : (s.removeTrip k).clock = s.clock := rfl
@[simp] theorem State.removeTrip_holidays (s : State) (k : Key) : (s.removeTrip k).holidays = s.holidays := rfl
@[simp] theorem State.removeTrip_profiles (s : State) (k : Key) : (s.removeTrip k).profiles = s.profiles := rfl
@[simp] theorem State.removeTrip_live (s : State) (k : Key) : (s.removeTrip k).live = s.live := rfl
@[simp] theorem State.removeTrip_staged (s : State) (k : Key) : (s.removeTrip k).staged = s.staged := rfl
@[simp] theorem State.removeTrip_lobbies (s : State) (k : Key) : (s.removeTrip k).lobbies = s.lobbies := rfl
@[simp] theorem State.removeTrip_entries (s : State) (k : Key) : (s.removeTrip k).entries = s.entries := rfl
@[simp] theorem State.removeTrip_settings (s : State) (k : Key) : (s.removeTrip k).settings = s.settings := rfl
@[simp] theorem State.removeTrip_emg (s : State) (k : Key) : (s.removeTrip k).emg = s.emg := rfl
@[simp] theorem State.removeTrip_links (s : State) (k : Key) : (s.removeTrip k).links = s.links := rfl
@[simp] theorem State.removeTrip_service (s : State) (k : Key) : (s.removeTrip k).service = s.service := rfl
@[simp] theorem State.removeTrip_watch (s : State) (k : Key) : (s.removeTrip k).watch = s.watch := rfl
@[simp] theorem State.removeTrip_dispatch (s : State) (k : Key) : (s.removeTrip k).dispatch = s.dispatch := rfl
@[simp] theorem State.removeTrip_trips (s : State) (k : Key) :
    (s.removeTrip k).trips = s.trips.filter fun t => t.key != k := rfl
@[simp] theorem State.removeTrip_sweeper (s : State) (k : Key) : (s.removeTrip k).sweeper = s.sweeper := rfl
@[simp] theorem State.removeTrip_port (s : State) (k : Key) : (s.removeTrip k).port = s.port := rfl
@[simp] theorem State.removeTrip_attention (s : State) (k : Key) : (s.removeTrip k).attention = s.attention := rfl
@[simp] theorem State.removeTrip_inReset (s : State) (k : Key) : (s.removeTrip k).inReset = s.inReset := rfl
@[simp] theorem State.removeTrip_reference (s : State) (k : Key) : (s.removeTrip k).reference = s.reference := rfl
@[simp] theorem State.removeTrip_pending (s : State) (k : Key) : (s.removeTrip k).pending = s.pending := rfl

/-! ## setGroupState -/

@[simp] theorem State.setGroupState_store (s : State) (g : Fin 12) (x : GroupState) :
    (s.setGroupState g x).store = s.store := rfl
@[simp] theorem State.setGroupState_banks (s : State) (g : Fin 12) (x : GroupState) :
    (s.setGroupState g x).banks = s.banks := rfl
@[simp] theorem State.setGroupState_clock (s : State) (g : Fin 12) (x : GroupState) :
    (s.setGroupState g x).clock = s.clock := rfl
@[simp] theorem State.setGroupState_holidays (s : State) (g : Fin 12) (x : GroupState) :
    (s.setGroupState g x).holidays = s.holidays := rfl
@[simp] theorem State.setGroupState_profiles (s : State) (g : Fin 12) (x : GroupState) :
    (s.setGroupState g x).profiles = s.profiles := rfl
@[simp] theorem State.setGroupState_live (s : State) (g : Fin 12) (x : GroupState) :
    (s.setGroupState g x).live = s.live := rfl
@[simp] theorem State.setGroupState_staged (s : State) (g : Fin 12) (x : GroupState) :
    (s.setGroupState g x).staged = s.staged := rfl
@[simp] theorem State.setGroupState_lobbies (s : State) (g : Fin 12) (x : GroupState) :
    (s.setGroupState g x).lobbies = s.lobbies := rfl
@[simp] theorem State.setGroupState_entries (s : State) (g : Fin 12) (x : GroupState) :
    (s.setGroupState g x).entries = s.entries := rfl
@[simp] theorem State.setGroupState_settings (s : State) (g : Fin 12) (x : GroupState) :
    (s.setGroupState g x).settings = s.settings := rfl
@[simp] theorem State.setGroupState_emg (s : State) (g : Fin 12) (x : GroupState) :
    (s.setGroupState g x).emg = s.emg := rfl
@[simp] theorem State.setGroupState_links (s : State) (g : Fin 12) (x : GroupState) :
    (s.setGroupState g x).links = s.links := rfl
@[simp] theorem State.setGroupState_service (s : State) (g : Fin 12) (x : GroupState) :
    (s.setGroupState g x).service = s.service := rfl
@[simp] theorem State.setGroupState_watch (s : State) (g : Fin 12) (x : GroupState) :
    (s.setGroupState g x).watch = s.watch := rfl
@[simp] theorem State.setGroupState_dispatch (s : State) (g : Fin 12) (x : GroupState) :
    (s.setGroupState g x).dispatch = { s.dispatch with groups := s.dispatch.groups.set g x } := rfl
@[simp] theorem State.setGroupState_trips (s : State) (g : Fin 12) (x : GroupState) :
    (s.setGroupState g x).trips = s.trips := rfl
@[simp] theorem State.setGroupState_sweeper (s : State) (g : Fin 12) (x : GroupState) :
    (s.setGroupState g x).sweeper = s.sweeper := rfl
@[simp] theorem State.setGroupState_port (s : State) (g : Fin 12) (x : GroupState) :
    (s.setGroupState g x).port = s.port := rfl
@[simp] theorem State.setGroupState_attention (s : State) (g : Fin 12) (x : GroupState) :
    (s.setGroupState g x).attention = s.attention := rfl
@[simp] theorem State.setGroupState_inReset (s : State) (g : Fin 12) (x : GroupState) :
    (s.setGroupState g x).inReset = s.inReset := rfl
@[simp] theorem State.setGroupState_reference (s : State) (g : Fin 12) (x : GroupState) :
    (s.setGroupState g x).reference = s.reference := rfl
@[simp] theorem State.setGroupState_pending (s : State) (g : Fin 12) (x : GroupState) :
    (s.setGroupState g x).pending = s.pending := rfl

/-! ## endPoll -/

@[simp] theorem State.endPoll_store (s : State) (l : Fin 4) : (s.endPoll l).store = s.store := rfl
@[simp] theorem State.endPoll_banks (s : State) (l : Fin 4) : (s.endPoll l).banks = s.banks := rfl
@[simp] theorem State.endPoll_clock (s : State) (l : Fin 4) : (s.endPoll l).clock = s.clock := rfl
@[simp] theorem State.endPoll_holidays (s : State) (l : Fin 4) : (s.endPoll l).holidays = s.holidays := rfl
@[simp] theorem State.endPoll_profiles (s : State) (l : Fin 4) : (s.endPoll l).profiles = s.profiles := rfl
@[simp] theorem State.endPoll_live (s : State) (l : Fin 4) : (s.endPoll l).live = s.live := rfl
@[simp] theorem State.endPoll_staged (s : State) (l : Fin 4) : (s.endPoll l).staged = s.staged := rfl
@[simp] theorem State.endPoll_lobbies (s : State) (l : Fin 4) : (s.endPoll l).lobbies = s.lobbies := rfl
@[simp] theorem State.endPoll_entries (s : State) (l : Fin 4) : (s.endPoll l).entries = s.entries := rfl
@[simp] theorem State.endPoll_settings (s : State) (l : Fin 4) : (s.endPoll l).settings = s.settings := rfl
@[simp] theorem State.endPoll_emg (s : State) (l : Fin 4) : (s.endPoll l).emg = s.emg := rfl
@[simp] theorem State.endPoll_links (s : State) (l : Fin 4) :
    (s.endPoll l).links = s.links.set l { s.links[l] with poll := none } := rfl
@[simp] theorem State.endPoll_service (s : State) (l : Fin 4) : (s.endPoll l).service = s.service := rfl
@[simp] theorem State.endPoll_watch (s : State) (l : Fin 4) : (s.endPoll l).watch = s.watch := rfl
@[simp] theorem State.endPoll_dispatch (s : State) (l : Fin 4) : (s.endPoll l).dispatch = s.dispatch := rfl
@[simp] theorem State.endPoll_trips (s : State) (l : Fin 4) : (s.endPoll l).trips = s.trips := rfl
@[simp] theorem State.endPoll_sweeper (s : State) (l : Fin 4) : (s.endPoll l).sweeper = s.sweeper := rfl
@[simp] theorem State.endPoll_port (s : State) (l : Fin 4) : (s.endPoll l).port = s.port := rfl
@[simp] theorem State.endPoll_attention (s : State) (l : Fin 4) : (s.endPoll l).attention = s.attention := rfl
@[simp] theorem State.endPoll_inReset (s : State) (l : Fin 4) : (s.endPoll l).inReset = s.inReset := rfl
@[simp] theorem State.endPoll_reference (s : State) (l : Fin 4) : (s.endPoll l).reference = s.reference := rfl
@[simp] theorem State.endPoll_pending (s : State) (l : Fin 4) : (s.endPoll l).pending = s.pending := rfl

/-! ## taken -/

@[simp] theorem State.taken_store (s : State) (fell : Fall) (n : Nat) : (s.taken fell n).store = s.store := rfl
@[simp] theorem State.taken_banks (s : State) (fell : Fall) (n : Nat) : (s.taken fell n).banks = s.banks := rfl
@[simp] theorem State.taken_clock (s : State) (fell : Fall) (n : Nat) : (s.taken fell n).clock = s.clock := rfl
@[simp] theorem State.taken_holidays (s : State) (fell : Fall) (n : Nat) : (s.taken fell n).holidays = s.holidays := rfl
@[simp] theorem State.taken_profiles (s : State) (fell : Fall) (n : Nat) : (s.taken fell n).profiles = s.profiles := rfl
@[simp] theorem State.taken_live (s : State) (fell : Fall) (n : Nat) : (s.taken fell n).live = s.live := rfl
@[simp] theorem State.taken_staged (s : State) (fell : Fall) (n : Nat) : (s.taken fell n).staged = s.staged := rfl
@[simp] theorem State.taken_lobbies (s : State) (fell : Fall) (n : Nat) : (s.taken fell n).lobbies = s.lobbies := rfl
@[simp] theorem State.taken_entries (s : State) (fell : Fall) (n : Nat) : (s.taken fell n).entries = s.entries := rfl
@[simp] theorem State.taken_settings (s : State) (fell : Fall) (n : Nat) : (s.taken fell n).settings = s.settings := rfl
@[simp] theorem State.taken_emg (s : State) (fell : Fall) (n : Nat) : (s.taken fell n).emg = s.emg := rfl
@[simp] theorem State.taken_links (s : State) (fell : Fall) (n : Nat) : (s.taken fell n).links = s.links := rfl
@[simp] theorem State.taken_service (s : State) (fell : Fall) (n : Nat) : (s.taken fell n).service = s.service := rfl
@[simp] theorem State.taken_watch (s : State) (fell : Fall) (n : Nat) : (s.taken fell n).watch = s.watch := rfl
@[simp] theorem State.taken_dispatch (s : State) (fell : Fall) (n : Nat) : (s.taken fell n).dispatch = s.dispatch := rfl
@[simp] theorem State.taken_trips (s : State) (fell : Fall) (n : Nat) : (s.taken fell n).trips = s.trips := rfl
@[simp] theorem State.taken_sweeper (s : State) (fell : Fall) (n : Nat) : (s.taken fell n).sweeper = s.sweeper := rfl
@[simp] theorem State.taken_attention (s : State) (fell : Fall) (n : Nat) :
    (s.taken fell n).attention = { s.attention with pending := s.attention.pending &&& 191#8 } := rfl
@[simp] theorem State.taken_inReset (s : State) (fell : Fall) (n : Nat) : (s.taken fell n).inReset = s.inReset := rfl
@[simp] theorem State.taken_reference (s : State) (fell : Fall) (n : Nat) :
    (s.taken fell n).reference = s.reference := rfl
@[simp] theorem State.taken_pending (s : State) (fell : Fall) (n : Nat) : (s.taken fell n).pending = s.pending := rfl

/-! ## ended -/

@[simp] theorem State.ended_store (s : State) (c : ResultCode) (bytes : List Byte) :
    (s.ended c bytes).store = s.store := rfl
@[simp] theorem State.ended_banks (s : State) (c : ResultCode) (bytes : List Byte) :
    (s.ended c bytes).banks = s.banks := rfl
@[simp] theorem State.ended_clock (s : State) (c : ResultCode) (bytes : List Byte) :
    (s.ended c bytes).clock = s.clock := rfl
@[simp] theorem State.ended_holidays (s : State) (c : ResultCode) (bytes : List Byte) :
    (s.ended c bytes).holidays = s.holidays := rfl
@[simp] theorem State.ended_profiles (s : State) (c : ResultCode) (bytes : List Byte) :
    (s.ended c bytes).profiles = s.profiles := rfl
@[simp] theorem State.ended_live (s : State) (c : ResultCode) (bytes : List Byte) : (s.ended c bytes).live = s.live := rfl
@[simp] theorem State.ended_staged (s : State) (c : ResultCode) (bytes : List Byte) :
    (s.ended c bytes).staged = s.staged := rfl
@[simp] theorem State.ended_lobbies (s : State) (c : ResultCode) (bytes : List Byte) :
    (s.ended c bytes).lobbies = s.lobbies := rfl
@[simp] theorem State.ended_entries (s : State) (c : ResultCode) (bytes : List Byte) :
    (s.ended c bytes).entries = s.entries := rfl
@[simp] theorem State.ended_settings (s : State) (c : ResultCode) (bytes : List Byte) :
    (s.ended c bytes).settings = s.settings := rfl
@[simp] theorem State.ended_emg (s : State) (c : ResultCode) (bytes : List Byte) : (s.ended c bytes).emg = s.emg := rfl
@[simp] theorem State.ended_links (s : State) (c : ResultCode) (bytes : List Byte) :
    (s.ended c bytes).links = s.links := rfl
@[simp] theorem State.ended_service (s : State) (c : ResultCode) (bytes : List Byte) :
    (s.ended c bytes).service = s.service := rfl
@[simp] theorem State.ended_watch (s : State) (c : ResultCode) (bytes : List Byte) :
    (s.ended c bytes).watch = s.watch := rfl
@[simp] theorem State.ended_dispatch (s : State) (c : ResultCode) (bytes : List Byte) :
    (s.ended c bytes).dispatch = s.dispatch := rfl
@[simp] theorem State.ended_trips (s : State) (c : ResultCode) (bytes : List Byte) :
    (s.ended c bytes).trips = s.trips := rfl
@[simp] theorem State.ended_sweeper (s : State) (c : ResultCode) (bytes : List Byte) :
    (s.ended c bytes).sweeper = s.sweeper := rfl
@[simp] theorem State.ended_port (s : State) (c : ResultCode) (bytes : List Byte) :
    (s.ended c bytes).port = { s.port with engine := .done, buffer := some { code := c, bytes := bytes } } := rfl
@[simp] theorem State.ended_attention (s : State) (c : ResultCode) (bytes : List Byte) :
    (s.ended c bytes).attention = { s.attention with pending := s.attention.pending ||| 64#8 } := rfl
@[simp] theorem State.ended_inReset (s : State) (c : ResultCode) (bytes : List Byte) :
    (s.ended c bytes).inReset = s.inReset := rfl
@[simp] theorem State.ended_reference (s : State) (c : ResultCode) (bytes : List Byte) :
    (s.ended c bytes).reference = s.reference := rfl
@[simp] theorem State.ended_pending (s : State) (c : ResultCode) (bytes : List Byte) :
    (s.ended c bytes).pending = s.pending := rfl

/-! ## turned -/

@[simp] theorem State.turned_store (s : State) (n : Fin 4) (k : TurnClass) : (s.turned n k).store = s.store := rfl
@[simp] theorem State.turned_clock (s : State) (n : Fin 4) (k : TurnClass) : (s.turned n k).clock = s.clock := rfl
@[simp] theorem State.turned_holidays (s : State) (n : Fin 4) (k : TurnClass) :
    (s.turned n k).holidays = s.holidays := rfl
@[simp] theorem State.turned_profiles (s : State) (n : Fin 4) (k : TurnClass) :
    (s.turned n k).profiles = s.profiles := rfl
@[simp] theorem State.turned_live (s : State) (n : Fin 4) (k : TurnClass) : (s.turned n k).live = s.live := rfl
@[simp] theorem State.turned_staged (s : State) (n : Fin 4) (k : TurnClass) : (s.turned n k).staged = s.staged := rfl
@[simp] theorem State.turned_lobbies (s : State) (n : Fin 4) (k : TurnClass) : (s.turned n k).lobbies = s.lobbies := rfl
@[simp] theorem State.turned_entries (s : State) (n : Fin 4) (k : TurnClass) : (s.turned n k).entries = s.entries := rfl
@[simp] theorem State.turned_settings (s : State) (n : Fin 4) (k : TurnClass) :
    (s.turned n k).settings = s.settings := rfl
@[simp] theorem State.turned_emg (s : State) (n : Fin 4) (k : TurnClass) : (s.turned n k).emg = s.emg := rfl
@[simp] theorem State.turned_links (s : State) (n : Fin 4) (k : TurnClass) : (s.turned n k).links = s.links := rfl
@[simp] theorem State.turned_service (s : State) (n : Fin 4) (k : TurnClass) : (s.turned n k).service = s.service := rfl
@[simp] theorem State.turned_watch (s : State) (n : Fin 4) (k : TurnClass) : (s.turned n k).watch = s.watch := rfl
@[simp] theorem State.turned_dispatch (s : State) (n : Fin 4) (k : TurnClass) :
    (s.turned n k).dispatch = s.dispatch := rfl
@[simp] theorem State.turned_trips (s : State) (n : Fin 4) (k : TurnClass) : (s.turned n k).trips = s.trips := rfl
@[simp] theorem State.turned_sweeper (s : State) (n : Fin 4) (k : TurnClass) : (s.turned n k).sweeper = s.sweeper := rfl
@[simp] theorem State.turned_port (s : State) (n : Fin 4) (k : TurnClass) : (s.turned n k).port = s.port := rfl
@[simp] theorem State.turned_attention (s : State) (n : Fin 4) (k : TurnClass) :
    (s.turned n k).attention = s.attention := rfl
@[simp] theorem State.turned_inReset (s : State) (n : Fin 4) (k : TurnClass) : (s.turned n k).inReset = s.inReset := rfl
@[simp] theorem State.turned_reference (s : State) (n : Fin 4) (k : TurnClass) :
    (s.turned n k).reference = s.reference := rfl
@[simp] theorem State.turned_pending (s : State) (n : Fin 4) (k : TurnClass) : (s.turned n k).pending = s.pending := rfl

end Sys2Proof.Machine
end

