-- ==== Sys2Proof/Laws/Table.lean ====
section
/-! SUPPORT. Laws of the sparse table of record slots: reading after writing and erasing, the canonical form, and with them
what the Credential Store's operations do. -/

namespace Sys2Proof.Machine

/-! ## Reading after a write -/

theorem Table.get_put_self {α : Type} (t : List (Nat × α)) (n : Nat) (x : α) : Table.get (Table.put t n x) n = some x := by
  induction t with
  | nil => simp [put, get]
  | cons h t ih =>
    obtain ⟨k, v⟩ := h
    simp only [put]
    split_ifs with h1 h2
    · simp [get]
    · simp [get]
    · simp [get, h2, ih]

theorem Table.get_put_other {α : Type} (t : List (Nat × α)) {n m : Nat} (x : α) (h : m ≠ n) :
    Table.get (Table.put t n x) m = Table.get t m := by
  induction t with
  | nil => simp [put, get, h]
  | cons a t ih =>
    obtain ⟨k, v⟩ := a
    simp only [put]
    split_ifs with h1 h2
    · simp [get, h]
    · subst h2; simp [get, h]
    · simp [get, ih]

theorem Table.get_erase_other {α : Type} (t : List (Nat × α)) {n m : Nat} (h : m ≠ n) :
    Table.get (Table.erase t n) m = Table.get t m := by
  induction t with
  | nil => rfl
  | cons a t ih =>
    obtain ⟨k, v⟩ := a
    simp only [erase]
    split_ifs with h1
    · subst h1; simp [get, h]
    · simp [get, ih]

theorem Table.get_eq_none {α : Type} {t : List (Nat × α)} {n : Nat} (h : n ∉ t.map Prod.fst) : Table.get t n = none := by
  induction t with
  | nil => rfl
  | cons a t ih =>
    obtain ⟨k, v⟩ := a
    simp only [List.map_cons, List.mem_cons, not_or] at h
    simp [get, h.1, ih h.2]

theorem Table.mem_of_get {α : Type} {t : List (Nat × α)} {n : Nat} {x : α} (h : Table.get t n = some x) : (n, x) ∈ t := by
  induction t with
  | nil => simp [get] at h
  | cons a t ih =>
    obtain ⟨k, v⟩ := a
    simp only [get] at h
    split_ifs at h with h1
    · simp only [Option.some.injEq] at h; subst h1 h; simp
    · exact List.mem_cons_of_mem _ (ih h)

/-! ## The canonical form -/

theorem Table.keys_put {α : Type} (t : List (Nat × α)) (n : Nat) (x : α) (m : Nat) :
    m ∈ (Table.put t n x).map Prod.fst ↔ m = n ∨ m ∈ t.map Prod.fst := by
  induction t with
  | nil => simp [put]
  | cons a t ih =>
    obtain ⟨k, v⟩ := a
    simp only [put]
    split_ifs with h1 h2
    · simp
    · subst h2; simp
    · rw [List.map_cons, List.mem_cons, ih, List.map_cons, List.mem_cons]; tauto

theorem Table.erase_sublist {α : Type} (t : List (Nat × α)) (n : Nat) : (Table.erase t n).Sublist t := by
  induction t with
  | nil => exact .slnil
  | cons a t ih =>
    obtain ⟨k, v⟩ := a
    simp only [erase]
    split_ifs with h1
    · exact List.sublist_cons_self _ _
    · exact ih.cons_cons _

/-- A write keeps the canonical form. -/
theorem Table.wf_put {α : Type} {bound : Nat} {t : List (Nat × α)} (h : Table.wf bound t) {n : Nat} (hn : n < bound)
    (x : α) : Table.wf bound (Table.put t n x) := by
  refine ⟨?_, fun m hm => ?_⟩
  · replace h := h.1
    induction t with
    | nil => simp [put]
    | cons a t ih =>
      obtain ⟨k, v⟩ := a
      simp only [List.map_cons, List.pairwise_cons] at h
      simp only [put]
      split_ifs with h1 h2
      · simp only [List.map_cons, List.pairwise_cons, List.mem_cons]
        refine ⟨fun m hm => ?_, h.1, h.2⟩
        rcases hm with rfl | hm
        · exact h1
        · exact h1.trans (h.1 m hm)
      · subst h2; simpa using h
      · simp only [List.map_cons, List.pairwise_cons]
        refine ⟨fun m hm => ?_, ih h.2⟩
        rcases (Table.keys_put t n x m).1 hm with rfl | hm
        · omega
        · exact h.1 m hm
  · rcases (Table.keys_put t n x m).1 hm with rfl | hm
    · exact hn
    · exact h.2 m hm

/-- An erasure keeps the canonical form. -/
theorem Table.wf_erase {α : Type} {bound : Nat} {t : List (Nat × α)} (h : Table.wf bound t) (n : Nat) :
    Table.wf bound (Table.erase t n) :=
  have hs := (Table.erase_sublist t n).map Prod.fst
  ⟨h.1.sublist hs, fun k hk => h.2 k (hs.subset hk)⟩

theorem Table.get_erase_self {α : Type} {bound : Nat} {t : List (Nat × α)} (h : Table.wf bound t) (n : Nat) :
    Table.get (Table.erase t n) n = none := by
  apply Table.get_eq_none
  replace h := h.1
  induction t with
  | nil => simp [erase]
  | cons a t ih =>
    obtain ⟨k, v⟩ := a
    simp only [List.map_cons, List.pairwise_cons] at h
    simp only [erase]
    split_ifs with h1
    · subst h1; exact fun hm => absurd (h.1 n hm) (lt_irrefl n)
    · simp only [List.map_cons, List.mem_cons, not_or]; exact ⟨h1, ih h.2⟩

theorem Table.get_of_mem {α : Type} {bound : Nat} {t : List (Nat × α)} (h : Table.wf bound t) {n : Nat} {x : α}
    (hm : (n, x) ∈ t) : Table.get t n = some x := by
  replace h := h.1
  induction t with
  | nil => simp at hm
  | cons a t ih =>
    obtain ⟨k, v⟩ := a
    simp only [List.map_cons, List.pairwise_cons] at h
    simp only [get]
    rcases List.mem_cons.1 hm with he | hm
    · simp only [Prod.mk.injEq] at he; simp [he.1, he.2]
    · have := h.1 n (List.mem_map_of_mem (f := Prod.fst) hm)
      rw [if_neg (by omega), ih hm h.2]

/-- A write under a listed key keeps the number of entries. -/
theorem Table.length_put_of_some {α : Type} {bound : Nat} {t : List (Nat × α)} (h : Table.wf bound t) {n : Nat} {y : α}
    (hg : Table.get t n = some y) (x : α) : (Table.put t n x).length = t.length := by
  replace h := h.1
  induction t with
  | nil => simp [get] at hg
  | cons a t ih =>
    obtain ⟨k, v⟩ := a
    simp only [List.map_cons, List.pairwise_cons] at h
    simp only [get] at hg
    simp only [put]
    split_ifs at hg with h1
    · simp [h1]
    · have hk := h.1 n (List.mem_map_of_mem (f := Prod.fst) (Table.mem_of_get hg))
      rw [if_neg (by omega), if_neg h1]
      simp [ih hg h.2]

/-- A write under an unlisted key adds one entry. -/
theorem Table.length_put_of_none {α : Type} {t : List (Nat × α)} {n : Nat} (hg : Table.get t n = none) (x : α) :
    (Table.put t n x).length = t.length + 1 := by
  induction t with
  | nil => simp [put]
  | cons a t ih =>
    obtain ⟨k, v⟩ := a
    simp only [get] at hg
    simp only [put]
    split_ifs at hg with h1
    split_ifs with h2
    · simp
    · simp [ih hg]

/-- The erasure of a listed key takes away one entry. -/
theorem Table.length_erase {α : Type} {t : List (Nat × α)} {n : Nat} {y : α} (hg : Table.get t n = some y) :
    (Table.erase t n).length + 1 = t.length := by
  induction t with
  | nil => simp [get] at hg
  | cons a t ih =>
    obtain ⟨k, v⟩ := a
    simp only [get] at hg
    simp only [erase]
    split_ifs at hg ⊢ with h1
    · simp
    · simp [ih hg]

/-! ## The Credential Store -/

theorem slotNumber_inj {b b' : Bucket} {w w' : Way} (h : slotNumber b w = slotNumber b' w') : (b, w) = (b', w') := by
  simp only [slotNumber] at h
  have := w.isLt
  have := w'.isLt
  ext <;> simp <;> omega

theorem slotNumber_lt (b : Bucket) (w : Way) : slotNumber b w < 16384 := by
  have := b.isLt
  have := w.isLt
  simp only [slotNumber]; omega

@[simp] theorem Store.slot_write (st : Store) (b : Bucket) (w : Way) (r : Record) : (st.write b w r).slot b w = some r :=
  Table.get_put_self _ _ _

theorem Store.slot_write_other (st : Store) {b b' : Bucket} {w w' : Way} (r : Record) (h : (b', w') ≠ (b, w)) :
    (st.write b w r).slot b' w' = st.slot b' w' :=
  Table.get_put_other _ _ fun he => h (slotNumber_inj he)

theorem Store.sameBut_write (st : Store) (b : Bucket) (w : Way) (r : Record) : st.SameBut (st.write b w r) b w :=
  fun _ _ h => st.slot_write_other r h

@[simp] theorem Store.slot_place (st : Store) (b : Bucket) (w : Way) (r : Record) : (st.place b w r).slot b w = some r :=
  Table.get_put_self _ _ _

theorem Store.sameBut_place (st : Store) (b : Bucket) (w : Way) (r : Record) : st.SameBut (st.place b w r) b w :=
  fun _ _ h => st.slot_write_other r h

theorem Store.slot_release {st : Store} (h : Table.wf 16384 st.slots) (b : Bucket) (w : Way) :
    (st.release b w).slot b w = none :=
  Table.get_erase_self h _

theorem Store.slot_release_other (st : Store) {b b' : Bucket} {w w' : Way} (h : (b', w') ≠ (b, w)) :
    (st.release b w).slot b' w' = st.slot b' w' :=
  Table.get_erase_other _ fun he => h (slotNumber_inj he)

theorem Store.sameBut_release (st : Store) (b : Bucket) (w : Way) : st.SameBut (st.release b w) b w :=
  fun _ _ h => st.slot_release_other h

@[simp] theorem Store.write_occupancy (st : Store) (b : Bucket) (w : Way) (r : Record) :
    (st.write b w r).occupancy = st.occupancy := rfl
@[simp] theorem Store.write_edition (st : Store) (b : Bucket) (w : Way) (r : Record) :
    (st.write b w r).edition = st.edition := rfl
@[simp] theorem Store.place_occupancy (st : Store) (b : Bucket) (w : Way) (r : Record) :
    (st.place b w r).occupancy = st.occupancy + 1 := rfl
@[simp] theorem Store.place_edition (st : Store) (b : Bucket) (w : Way) (r : Record) :
    (st.place b w r).edition = st.edition := rfl
@[simp] theorem Store.release_occupancy (st : Store) (b : Bucket) (w : Way) :
    (st.release b w).occupancy = st.occupancy - 1 := rfl
@[simp] theorem Store.release_edition (st : Store) (b : Bucket) (w : Way) : (st.release b w).edition = st.edition := rfl
@[simp] theorem Store.takeEdition_slot (st : Store) (b : Bucket) (w : Way) : st.takeEdition.slot b w = st.slot b w := rfl
@[simp] theorem Store.takeEdition_occupancy (st : Store) : st.takeEdition.occupancy = st.occupancy := rfl
@[simp] theorem Store.takeEdition_edition (st : Store) : st.takeEdition.edition = (st.edition + 1) % 65536 := rfl

/-- What a search that finds the key says. -/
theorem Store.search_some {st : Store} {b : Bucket} {k : Key} {w : Way} {r : Record} (h : st.search b k = some (w, r)) :
    st.slot b w = some r ∧ r.key = k := by
  simp only [Store.search, List.findSome?_eq_some_iff] at h
  obtain ⟨_, w', _, _, hw, _⟩ := h
  split at hw
  · split at hw
    · simp only [Option.some.injEq, Prod.mk.injEq] at hw
      obtain ⟨rfl, rfl⟩ := hw
      exact ⟨‹_›, ‹_›⟩
    · simp at hw
  · simp at hw

/-- What a search that does not find the key says. -/
theorem Store.search_none {st : Store} {b : Bucket} {k : Key} (h : st.search b k = none) (w : Way) (r : Record)
    (hs : st.slot b w = some r) : r.key ≠ k := by
  simp only [Store.search, List.findSome?_eq_none_iff] at h
  have hw : w ∈ ways := by clear hs; revert w; decide
  have := h w hw
  simp only [hs] at this
  intro hk
  simp [hk] at this

/-- A way found FREE is FREE. -/
theorem Store.freeWay_some {st : Store} {b : Bucket} {w : Way} (h : st.freeWay b = some w) : st.slot b w = none := by
  simpa using List.find?_some h

end Sys2Proof.Machine
end

