-- ==== Sys2Proof/Laws/Ops.lean ====
section
/-! SUPPORT. What the shared operations do, said once each: drops and posted replies, the liveness step of a good frame, the
recomputation of the lobbies, pending entries and tags, and the turn of a bank. -/

namespace Sys2Proof.Machine

/-! ## Drops (R110) -/

@[simp] theorem State.drop_setDrop (s : State) (l : Fin 4) (d : Fin 28) (x : Drop) : (s.setDrop l d x).drop l d = x := by
  simp [State.drop]

theorem State.drop_setDrop_other (s : State) {l l' : Fin 4} {d d' : Fin 28} (x : Drop) (h : (l', d') ≠ (l, d)) :
    (s.setDrop l d x).drop l' d' = s.drop l' d' := by
  simp only [State.drop, State.setDrop, Fin.getElem_fin]
  by_cases hl : l' = l
  · subst hl
    have hd : d.val ≠ d'.val := fun hv => h (by rw [Fin.ext hv])
    simp [Vector.getElem_set_ne, hd]
  · have hl : l.val ≠ l'.val := fun hv => hl (Fin.ext hv.symm)
    simp [Vector.getElem_set_ne, hl]

@[simp] theorem State.setDrop_setDrop (s : State) (l : Fin 4) (d : Fin 28) (x y : Drop) :
    (s.setDrop l d x).setDrop l d y = s.setDrop l d y := by
  simp [State.setDrop]

/-! ## Posted replies (R120) -/

/-- A posted reply fills the slot of the transaction that holds the entry's number. -/
theorem State.post_held {s : State} {e : Fin 64} {en : Entry} {t : Transaction}
    (ht : (s.drop en.link en.drop).transaction = some t) (he : t.entry = some e) (r : Reply) :
    s.post e en r
      = s.setDrop en.link en.drop { s.drop en.link en.drop with transaction := some { t with reply := some r } } := by
  simp [State.post, ht, he, Drop.withReply]

/-- A posted reply goes nowhere where no open transaction holds the entry's number. -/
theorem State.post_unheld {s : State} {e : Fin 64} {en : Entry}
    (h : ∀ t, (s.drop en.link en.drop).transaction = some t → t.entry ≠ some e) (r : Reply) : s.post e en r = s := by
  unfold State.post
  split
  · rename_i t ht
    rw [if_neg (h t ht)]
  · rfl

@[simp] theorem State.post_store (s : State) (e : Fin 64) (en : Entry) (r : Reply) : (s.post e en r).store = s.store := by
  unfold State.post; split <;> [split; skip] <;> rfl
@[simp] theorem State.post_banks (s : State) (e : Fin 64) (en : Entry) (r : Reply) : (s.post e en r).banks = s.banks := by
  unfold State.post; split <;> [split; skip] <;> rfl
@[simp] theorem State.post_clock (s : State) (e : Fin 64) (en : Entry) (r : Reply) : (s.post e en r).clock = s.clock := by
  unfold State.post; split <;> [split; skip] <;> rfl
@[simp] theorem State.post_holidays (s : State) (e : Fin 64) (en : Entry) (r : Reply) : (s.post e en r).holidays = s.holidays := by
  unfold State.post; split <;> [split; skip] <;> rfl
@[simp] theorem State.post_profiles (s : State) (e : Fin 64) (en : Entry) (r : Reply) : (s.post e en r).profiles = s.profiles := by
  unfold State.post; split <;> [split; skip] <;> rfl
@[simp] theorem State.post_live (s : State) (e : Fin 64) (en : Entry) (r : Reply) : (s.post e en r).live = s.live := by
  unfold State.post; split <;> [split; skip] <;> rfl
@[simp] theorem State.post_staged (s : State) (e : Fin 64) (en : Entry) (r : Reply) : (s.post e en r).staged = s.staged := by
  unfold State.post; split <;> [split; skip] <;> rfl
@[simp] theorem State.post_lobbies (s : State) (e : Fin 64) (en : Entry) (r : Reply) : (s.post e en r).lobbies = s.lobbies := by
  unfold State.post; split <;> [split; skip] <;> rfl
@[simp] theorem State.post_entries (s : State) (e : Fin 64) (en : Entry) (r : Reply) : (s.post e en r).entries = s.entries := by
  unfold State.post; split <;> [split; skip] <;> rfl
@[simp] theorem State.post_settings (s : State) (e : Fin 64) (en : Entry) (r : Reply) : (s.post e en r).settings = s.settings := by
  unfold State.post; split <;> [split; skip] <;> rfl
@[simp] theorem State.post_emg (s : State) (e : Fin 64) (en : Entry) (r : Reply) : (s.post e en r).emg = s.emg := by
  unfold State.post; split <;> [split; skip] <;> rfl
@[simp] theorem State.post_service (s : State) (e : Fin 64) (en : Entry) (r : Reply) : (s.post e en r).service = s.service := by
  unfold State.post; split <;> [split; skip] <;> rfl
@[simp] theorem State.post_watch (s : State) (e : Fin 64) (en : Entry) (r : Reply) : (s.post e en r).watch = s.watch := by
  unfold State.post; split <;> [split; skip] <;> rfl
@[simp] theorem State.post_dispatch (s : State) (e : Fin 64) (en : Entry) (r : Reply) : (s.post e en r).dispatch = s.dispatch := by
  unfold State.post; split <;> [split; skip] <;> rfl
@[simp] theorem State.post_trips (s : State) (e : Fin 64) (en : Entry) (r : Reply) : (s.post e en r).trips = s.trips := by
  unfold State.post; split <;> [split; skip] <;> rfl
@[simp] theorem State.post_sweeper (s : State) (e : Fin 64) (en : Entry) (r : Reply) : (s.post e en r).sweeper = s.sweeper := by
  unfold State.post; split <;> [split; skip] <;> rfl
@[simp] theorem State.post_port (s : State) (e : Fin 64) (en : Entry) (r : Reply) : (s.post e en r).port = s.port := by
  unfold State.post; split <;> [split; skip] <;> rfl
@[simp] theorem State.post_attention (s : State) (e : Fin 64) (en : Entry) (r : Reply) : (s.post e en r).attention = s.attention := by
  unfold State.post; split <;> [split; skip] <;> rfl
@[simp] theorem State.post_inReset (s : State) (e : Fin 64) (en : Entry) (r : Reply) : (s.post e en r).inReset = s.inReset := by
  unfold State.post; split <;> [split; skip] <;> rfl
@[simp] theorem State.post_reference (s : State) (e : Fin 64) (en : Entry) (r : Reply) : (s.post e en r).reference = s.reference := by
  unfold State.post; split <;> [split; skip] <;> rfl
@[simp] theorem State.post_pending (s : State) (e : Fin 64) (en : Entry) (r : Reply) : (s.post e en r).pending = s.pending := by
  unfold State.post; split <;> [split; skip] <;> rfl

/-! ## The liveness step of a good frame (R132, R134, R137) -/

theorem State.hear_eq_heard (s : State) : s.hear = s.heard := by
  cases h : s.dispatch.state <;>
    simp [State.hear, State.heard, h, State.becomeActive, State.reannounce, State.raise, Attention.raise,
      State.announcements, State.notices]

/-- A good frame outside a reset does its content after the liveness step. -/
theorem State.receive_eq {s : State} (h : s.inReset = false) (content : State → State) :
    s.receive content = .next (content s.heard) := by
  simp [State.receive, h, State.hear_eq_heard]

/-- A good frame in reset is no event. -/
theorem State.receive_inReset {s : State} (h : s.inReset = true) (content : State → State) : s.receive content = .next s := by
  simp [State.receive, h]

@[simp] theorem State.heard_store (s : State)  : (s.heard).store = s.store := by
  unfold State.heard; split <;> rfl
@[simp] theorem State.heard_banks (s : State)  : (s.heard).banks = s.banks := by
  unfold State.heard; split <;> rfl
@[simp] theorem State.heard_clock (s : State)  : (s.heard).clock = s.clock := by
  unfold State.heard; split <;> rfl
@[simp] theorem State.heard_holidays (s : State)  : (s.heard).holidays = s.holidays := by
  unfold State.heard; split <;> rfl
@[simp] theorem State.heard_profiles (s : State)  : (s.heard).profiles = s.profiles := by
  unfold State.heard; split <;> rfl
@[simp] theorem State.heard_live (s : State)  : (s.heard).live = s.live := by
  unfold State.heard; split <;> rfl
@[simp] theorem State.heard_staged (s : State)  : (s.heard).staged = s.staged := by
  unfold State.heard; split <;> rfl
@[simp] theorem State.heard_lobbies (s : State)  : (s.heard).lobbies = s.lobbies := by
  unfold State.heard; split <;> rfl
@[simp] theorem State.heard_entries (s : State)  : (s.heard).entries = s.entries := by
  unfold State.heard; split <;> rfl
@[simp] theorem State.heard_settings (s : State)  : (s.heard).settings = s.settings := by
  unfold State.heard; split <;> rfl
@[simp] theorem State.heard_emg (s : State)  : (s.heard).emg = s.emg := by
  unfold State.heard; split <;> rfl
@[simp] theorem State.heard_links (s : State)  : (s.heard).links = s.links := by
  unfold State.heard; split <;> rfl
@[simp] theorem State.heard_service (s : State)  : (s.heard).service = s.service := by
  unfold State.heard; split <;> rfl
@[simp] theorem State.heard_watch (s : State)  : (s.heard).watch = s.watch := by
  unfold State.heard; split <;> rfl
@[simp] theorem State.heard_trips (s : State)  : (s.heard).trips = s.trips := by
  unfold State.heard; split <;> rfl
@[simp] theorem State.heard_sweeper (s : State)  : (s.heard).sweeper = s.sweeper := by
  unfold State.heard; split <;> rfl
@[simp] theorem State.heard_port (s : State)  : (s.heard).port = s.port := by
  unfold State.heard; split <;> rfl
@[simp] theorem State.heard_inReset (s : State)  : (s.heard).inReset = s.inReset := by
  unfold State.heard; split <;> rfl
@[simp] theorem State.heard_reference (s : State)  : (s.heard).reference = s.reference := by
  unfold State.heard; split <;> rfl
@[simp] theorem State.heard_pending (s : State)  : (s.heard).pending = s.pending := by
  unfold State.heard; split <;> rfl

@[simp] theorem State.heard_groups (s : State) : s.heard.dispatch.groups = s.dispatch.groups := by
  unfold State.heard; split <;> rfl
@[simp] theorem State.heard_staleAnswers (s : State) : s.heard.dispatch.staleAnswers = s.dispatch.staleAnswers := by
  unfold State.heard; split <;> rfl
@[simp] theorem State.heard_frameErrors (s : State) : s.heard.dispatch.frameErrors = s.dispatch.frameErrors := by
  unfold State.heard; split <;> rfl
@[simp] theorem State.heard_sending (s : State) : s.heard.dispatch.sending = s.dispatch.sending := by
  unfold State.heard; split <;> rfl
@[simp] theorem State.heard_tagCounter (s : State) : s.heard.dispatch.tagCounter = s.dispatch.tagCounter := by
  unfold State.heard; split <;> rfl
@[simp] theorem State.heard_timeouts (s : State) : s.heard.dispatch.timeouts = 0 := by
  unfold State.heard; split <;> rfl
@[simp] theorem State.heard_receiver (s : State) : s.heard.dispatch.receiver = .outside := by
  unfold State.heard; split <;> rfl
@[simp] theorem State.heard_active (s : State) : s.heard.dispatch.state = .active := by
  unfold State.heard; split
  · assumption
  · rfl

/-! ## Outstanding offers and tags (R138 to R143) -/

theorem Entry.outstanding_iff (en : Entry) (tag : Byte) :
    en.outstanding tag = true ↔ ∃ d, en.state = .offered tag d true := by
  unfold Entry.outstanding
  split
  · rename_i t d h
    rw [h]
    constructor
    · intro ht; simp only [beq_iff_eq] at ht; exact ⟨d, by rw [ht]⟩
    · rintro ⟨d', h'⟩; cases h'; simp
  · rename_i h
    simp only [Bool.false_eq_true, false_iff, not_exists]
    intro d hd; exact h _ _ hd

/-- Where no offer is outstanding under a tag, none is found. -/
theorem State.outstanding_none {s : State} {tag : Byte} (h : ∀ e en, ¬ s.Outstanding tag e en) :
    s.outstanding tag = none := by
  simp only [State.outstanding, List.findSome?_eq_none_iff]
  intro e _
  split
  · rename_i en he
    simp only [ite_eq_right_iff, reduceCtorEq, imp_false]
    rw [Entry.outstanding_iff]
    exact fun ho => h e en ⟨he, ho⟩
  · rfl

/-- What is found is an outstanding offer. -/
theorem State.outstanding_some {s : State} {tag : Byte} {e : Fin 64} {en : Entry} (h : s.outstanding tag = some (e, en)) :
    s.Outstanding tag e en := by
  simp only [State.outstanding, List.findSome?_eq_some_iff] at h
  obtain ⟨_, e', _, _, hw, _⟩ := h
  split at hw
  · rename_i en' he
    split at hw
    · rename_i ho
      simp only [Option.some.injEq, Prod.mk.injEq] at hw
      obtain ⟨rfl, rfl⟩ := hw
      exact ⟨he, (Entry.outstanding_iff _ _).1 ho⟩
    · simp at hw
  · simp at hw

/-- Tags are distinct, so the outstanding offer under a tag is the one that is found. -/
theorem State.outstanding_unique {s : State} (hk : s.TagsKept) {tag : Byte} {e : Fin 64} {en : Entry}
    (ho : s.Outstanding tag e en) : s.outstanding tag = some (e, en) := by
  cases h : s.outstanding tag with
  | none =>
    simp only [State.outstanding, List.findSome?_eq_none_iff] at h
    have := h e (List.mem_finRange e)
    simp [ho.1, (Entry.outstanding_iff _ _).2 ho.2] at this
  | some x =>
    obtain ⟨e', en'⟩ := x
    obtain ⟨he', d', hd'⟩ := State.outstanding_some h
    obtain ⟨he, d, hd⟩ := ho
    have : e' = e := hk e' e en' en _ _ _ _ _ he' he hd' hd
    subst this
    rw [he] at he'
    simp only [Option.some.injEq] at he'
    rw [he']

theorem Entry.tag?_iff (en : Entry) (tag : Byte) : en.tag? = some tag ↔ ∃ d x, en.state = .offered tag d x := by
  unfold Entry.tag?
  split
  · rename_i t d x h
    rw [h]
    constructor
    · intro ht; simp only [Option.some.injEq] at ht; exact ⟨d, x, by rw [ht]⟩
    · rintro ⟨d', x', h'⟩; cases h'; rfl
  · rename_i h
    simp only [reduceCtorEq, false_iff, not_exists]
    intro d x hd; exact h _ _ _ hd

theorem State.tagHeld_iff (s : State) (tag : Byte) : s.tagHeld tag = true ↔ s.Held tag := by
  simp only [State.tagHeld, List.any_eq_true, Vector.mem_toList_iff, beq_iff_eq, State.Held]
  constructor
  · rintro ⟨x, hx, ht⟩
    obtain ⟨i, hi, rfl⟩ := Vector.mem_iff_getElem.1 hx
    cases he : s.entries[i] with
    | none => simp [he] at ht
    | some en =>
      rw [he, Option.bind_some, Entry.tag?_iff] at ht
      obtain ⟨d, x, h⟩ := ht
      exact ⟨⟨i, hi⟩, en, d, x, he, h⟩
  · rintro ⟨e, en, d, x, he, h⟩
    refine ⟨s.entries[e], Vector.getElem_mem _, ?_⟩
    rw [he, Option.bind_some, Entry.tag?_iff]
    exact ⟨d, x, h⟩

/-! ## Free entries (R75) -/

/-- The entry found free is free, and no lower-numbered entry is. -/
theorem State.freeEntry_some {s : State} {e : Fin 64} :
    s.freeEntry = some e ↔ s.entries[e] = none ∧ ∀ e' : Fin 64, e' < e → s.entries[e'] ≠ none := by
  simp only [State.freeEntry, List.find?_eq_some_iff_getElem]
  constructor
  · rintro ⟨h, i, hi, hget, hlt⟩
    refine ⟨by simpa using h, fun e' he' => ?_⟩
    simp only [List.getElem_finRange] at hget
    have hv : i = e.val := by rw [← hget]; simp
    have := hlt e'.val (by rw [hv]; exact he')
    simpa [Option.isSome_iff_ne_none] using this
  · rintro ⟨h, hlt⟩
    refine ⟨by simp [h], e.val, by simp, by simp, fun j hj => ?_⟩
    have := hlt ⟨j, by omega⟩ hj
    simpa [Option.isSome_iff_ne_none] using this

theorem State.freeEntry_none {s : State} : s.freeEntry = none ↔ ∀ e : Fin 64, s.entries[e] ≠ none := by
  simp [State.freeEntry, List.find?_eq_none]

/-! ## Lobbies (R123, R124) -/

theorem foldl_keeps {α β : Type} (f : State → β) {g : State → α → State} (h : ∀ s a, f (g s a) = f s) (l : List α)
    (s : State) : f (l.foldl g s) = f s := by
  induction l generalizing s with
  | nil => rfl
  | cons a l ih => rw [List.foldl_cons, ih, h]


@[simp] theorem State.recomputeLobby_store (s : State) (n : Fin 16) : (s.recomputeLobby n).store = s.store := by
  unfold State.recomputeLobby; split_ifs <;> rfl
@[simp] theorem State.recomputeLobby_banks (s : State) (n : Fin 16) : (s.recomputeLobby n).banks = s.banks := by
  unfold State.recomputeLobby; split_ifs <;> rfl
@[simp] theorem State.recomputeLobby_clock (s : State) (n : Fin 16) : (s.recomputeLobby n).clock = s.clock := by
  unfold State.recomputeLobby; split_ifs <;> rfl
@[simp] theorem State.recomputeLobby_holidays (s : State) (n : Fin 16) : (s.recomputeLobby n).holidays = s.holidays := by
  unfold State.recomputeLobby; split_ifs <;> rfl
@[simp] theorem State.recomputeLobby_profiles (s : State) (n : Fin 16) : (s.recomputeLobby n).profiles = s.profiles := by
  unfold State.recomputeLobby; split_ifs <;> rfl
@[simp] theorem State.recomputeLobby_live (s : State) (n : Fin 16) : (s.recomputeLobby n).live = s.live := by
  unfold State.recomputeLobby; split_ifs <;> rfl
@[simp] theorem State.recomputeLobby_staged (s : State) (n : Fin 16) : (s.recomputeLobby n).staged = s.staged := by
  unfold State.recomputeLobby; split_ifs <;> rfl
@[simp] theorem State.recomputeLobby_lobbies (s : State) (n : Fin 16) : (s.recomputeLobby n).lobbies = s.lobbies := by
  unfold State.recomputeLobby; split_ifs <;> rfl
@[simp] theorem State.recomputeLobby_entries (s : State) (n : Fin 16) : (s.recomputeLobby n).entries = s.entries := by
  unfold State.recomputeLobby; split_ifs <;> rfl
@[simp] theorem State.recomputeLobby_settings (s : State) (n : Fin 16) : (s.recomputeLobby n).settings = s.settings := by
  unfold State.recomputeLobby; split_ifs <;> rfl
@[simp] theorem State.recomputeLobby_emg (s : State) (n : Fin 16) : (s.recomputeLobby n).emg = s.emg := by
  unfold State.recomputeLobby; split_ifs <;> rfl
@[simp] theorem State.recomputeLobby_links (s : State) (n : Fin 16) : (s.recomputeLobby n).links = s.links := by
  unfold State.recomputeLobby; split_ifs <;> rfl
@[simp] theorem State.recomputeLobby_watch (s : State) (n : Fin 16) : (s.recomputeLobby n).watch = s.watch := by
  unfold State.recomputeLobby; split_ifs <;> rfl
@[simp] theorem State.recomputeLobby_trips (s : State) (n : Fin 16) : (s.recomputeLobby n).trips = s.trips := by
  unfold State.recomputeLobby; split_ifs <;> rfl
@[simp] theorem State.recomputeLobby_sweeper (s : State) (n : Fin 16) : (s.recomputeLobby n).sweeper = s.sweeper := by
  unfold State.recomputeLobby; split_ifs <;> rfl
@[simp] theorem State.recomputeLobby_port (s : State) (n : Fin 16) : (s.recomputeLobby n).port = s.port := by
  unfold State.recomputeLobby; split_ifs <;> rfl
@[simp] theorem State.recomputeLobby_inReset (s : State) (n : Fin 16) : (s.recomputeLobby n).inReset = s.inReset := by
  unfold State.recomputeLobby; split_ifs <;> rfl
@[simp] theorem State.recomputeLobby_reference (s : State) (n : Fin 16) : (s.recomputeLobby n).reference = s.reference := by
  unfold State.recomputeLobby; split_ifs <;> rfl
@[simp] theorem State.recomputeLobby_pending (s : State) (n : Fin 16) : (s.recomputeLobby n).pending = s.pending := by
  unfold State.recomputeLobby; split_ifs <;> rfl

@[simp] theorem State.recompute_store (s : State) : s.recompute.store = s.store :=
  foldl_keeps State.store (fun s n => State.recomputeLobby_store s n) _ s
@[simp] theorem State.recompute_banks (s : State) : s.recompute.banks = s.banks :=
  foldl_keeps State.banks (fun s n => State.recomputeLobby_banks s n) _ s
@[simp] theorem State.recompute_clock (s : State) : s.recompute.clock = s.clock :=
  foldl_keeps State.clock (fun s n => State.recomputeLobby_clock s n) _ s
@[simp] theorem State.recompute_holidays (s : State) : s.recompute.holidays = s.holidays :=
  foldl_keeps State.holidays (fun s n => State.recomputeLobby_holidays s n) _ s
@[simp] theorem State.recompute_profiles (s : State) : s.recompute.profiles = s.profiles :=
  foldl_keeps State.profiles (fun s n => State.recomputeLobby_profiles s n) _ s
@[simp] theorem State.recompute_live (s : State) : s.recompute.live = s.live :=
  foldl_keeps State.live (fun s n => State.recomputeLobby_live s n) _ s
@[simp] theorem State.recompute_staged (s : State) : s.recompute.staged = s.staged :=
  foldl_keeps State.staged (fun s n => State.recomputeLobby_staged s n) _ s
@[simp] theorem State.recompute_lobbies (s : State) : s.recompute.lobbies = s.lobbies :=
  foldl_keeps State.lobbies (fun s n => State.recomputeLobby_lobbies s n) _ s
@[simp] theorem State.recompute_entries (s : State) : s.recompute.entries = s.entries :=
  foldl_keeps State.entries (fun s n => State.recomputeLobby_entries s n) _ s
@[simp] theorem State.recompute_settings (s : State) : s.recompute.settings = s.settings :=
  foldl_keeps State.settings (fun s n => State.recomputeLobby_settings s n) _ s
@[simp] theorem State.recompute_emg (s : State) : s.recompute.emg = s.emg :=
  foldl_keeps State.emg (fun s n => State.recomputeLobby_emg s n) _ s
@[simp] theorem State.recompute_links (s : State) : s.recompute.links = s.links :=
  foldl_keeps State.links (fun s n => State.recomputeLobby_links s n) _ s
@[simp] theorem State.recompute_watch (s : State) : s.recompute.watch = s.watch :=
  foldl_keeps State.watch (fun s n => State.recomputeLobby_watch s n) _ s
@[simp] theorem State.recompute_trips (s : State) : s.recompute.trips = s.trips :=
  foldl_keeps State.trips (fun s n => State.recomputeLobby_trips s n) _ s
@[simp] theorem State.recompute_sweeper (s : State) : s.recompute.sweeper = s.sweeper :=
  foldl_keeps State.sweeper (fun s n => State.recomputeLobby_sweeper s n) _ s
@[simp] theorem State.recompute_port (s : State) : s.recompute.port = s.port :=
  foldl_keeps State.port (fun s n => State.recomputeLobby_port s n) _ s
@[simp] theorem State.recompute_inReset (s : State) : s.recompute.inReset = s.inReset :=
  foldl_keeps State.inReset (fun s n => State.recomputeLobby_inReset s n) _ s
@[simp] theorem State.recompute_reference (s : State) : s.recompute.reference = s.reference :=
  foldl_keeps State.reference (fun s n => State.recomputeLobby_reference s n) _ s
@[simp] theorem State.recompute_pending (s : State) : s.recompute.pending = s.pending :=
  foldl_keeps State.pending (fun s n => State.recomputeLobby_pending s n) _ s

@[simp] theorem State.recompute_serviceOf (s : State) (n : Fin 16) : s.recompute.serviceOf n = s.serviceOf n := by
  simp [State.serviceOf, State.allDrops]

/-- After one lobby is recomputed, it has the state its drop records give it and the others keep theirs. -/
theorem State.recomputeLobby_service (s : State) (n m : Fin 16) :
    (s.recomputeLobby n).service[m] = if m = n then s.serviceOf n else s.service[m] := by
  unfold State.recomputeLobby
  by_cases hm : m = n
  · subst hm
    split_ifs with h1 <;> simp_all
  · have hv : n.val ≠ m.val := fun h => hm (Fin.ext h.symm)
    split_ifs <;> simp [Vector.getElem_set_ne, hv]

/-- After the recomputation every lobby has the service state its drop records give it. -/
theorem State.recompute_service (s : State) (n : Fin 16) : s.recompute.service[n] = s.serviceOf n := by
  have key : ∀ (l : List (Fin 16)) (t : State), (∀ m, t.serviceOf m = s.serviceOf m) →
      (l.foldl State.recomputeLobby t).service[n] = if n ∈ l then s.serviceOf n else t.service[n] := by
    intro l
    induction l with
    | nil => intro t _; simp
    | cons m l ih =>
      intro t ht
      rw [List.foldl_cons, ih _ fun k => by
        rw [← ht k]; simp [State.serviceOf, State.allDrops]]
      rw [State.recomputeLobby_service, ht m]
      by_cases h1 : n ∈ l
      · simp [h1]
      · by_cases h2 : n = m
        · subst h2; simp
        · simp [h1, h2]
  have := key (List.finRange 16) s fun _ => rfl
  rw [if_pos (List.mem_finRange n)] at this
  exact this

/-! ## The turn of a bank (R30 to R32) -/

theorem Bank.adopt_eq (b : Bank) :
    b.adopt = { b with pattern := b.current, staged := if b.position = 0 then none else b.staged } := by
  unfold Bank.adopt Bank.current
  cases hs : b.staged <;> by_cases hp : b.position = 0 <;> simp [hp]
  all_goals cases b; simp_all

/-- The arbiter's choice, by the class at the position. -/
theorem Bank.turn_eq (b : Bank) (passing : Bool) :
    b.turn passing =
      (let after : Bank :=
          { b with
            pattern := b.current, staged := if b.position = 0 then none else b.staged, position := b.position + 1 }
       match b.due with
       | .idle => (after, .nothing)
       | .lookup =>
         match b.lookup with
         | [] => (after, .nothing)
         | q :: rest => ({ after with lookup := rest }, .lookup q)
       | .upkeep =>
         match b.upkeep with
         | [] => (after, .nothing)
         | q :: rest => ({ after with upkeep := rest }, .upkeep q)
       | .sweep =>
         match b.sweep, passing, b.upkeep with
         | q :: rest, _, _ => ({ after with sweep := rest }, .sweep q)
         | [], true, _ => (after, .nothing)
         | [], false, [] => (after, .nothing)
         | [], false, q :: rest => ({ after with upkeep := rest }, .upkeep q)) := by
  have hd : b.adopt.pattern[b.adopt.position] = b.due := by simp [Bank.adopt_eq, Bank.due]
  unfold Bank.turn
  simp only [hd]
  cases b.due <;> simp only [Bank.takeLookup, Bank.takeUpkeep, Bank.takeSweep, Bank.adopt_eq]
  · cases b.lookup <;> rfl
  · cases b.upkeep <;> rfl
  · cases b.sweep <;> cases passing <;> cases b.upkeep <;> rfl

end Sys2Proof.Machine
end

