-- ==== Sys2Proof/Laws/Store.lean ====
section
/-! SUPPORT. Laws of what is written into records and slots: the forms of the store's writes, the record rules they keep, and the
canonical form of the store. -/

namespace Sys2Proof.Machine

/-! ## The store's canonical form (R9) -/

/-- The store's own rule: canonical form, and the occupancy count is the number of occupied slots. -/
def Store.Kept (st : Store) : Prop := Table.wf 16384 st.slots ∧ st.occupancy = st.slots.length

theorem State.storeKept_iff (s : State) : s.StoreKept ↔ s.store.Kept := Iff.rfl

theorem Store.kept_write {st : Store} (h : st.Kept) {b : Bucket} {w : Way} {old : Record} (hs : st.slot b w = some old)
    (r : Record) : (st.write b w r).Kept :=
  ⟨Table.wf_put h.1 (slotNumber_lt b w) r, by
    rw [Store.write_occupancy, h.2]; exact (Table.length_put_of_some h.1 hs r).symm⟩

theorem Store.kept_place {st : Store} (h : st.Kept) {b : Bucket} {w : Way} (hs : st.slot b w = none) (r : Record) :
    (st.place b w r).Kept :=
  ⟨Table.wf_put h.1 (slotNumber_lt b w) r, by
    rw [Store.place_occupancy, h.2]; exact (Table.length_put_of_none hs r).symm⟩

theorem Store.kept_release {st : Store} (h : st.Kept) {b : Bucket} {w : Way} {old : Record}
    (hs : st.slot b w = some old) : (st.release b w).Kept :=
  ⟨Table.wf_erase h.1 _, by
    have := Table.length_erase hs
    rw [Store.release_occupancy, h.2]
    show st.slots.length - 1 = (Table.erase st.slots (slotNumber b w)).length
    omega⟩

/-! ## Records (R6 to R8, R18) -/

theorem Record.lapses_iff (r : Record) (now : Nat) : r.lapses now = true ↔ r.LapseHolds now := by
  unfold Record.lapses Record.LapseHolds
  cases r.validUntil <;> simp

/-- The record that a lapse writes. -/
theorem Record.lapse_eq {r : Record} {x : Nat} (h : r.validUntil = some x) :
    r.lapse = { r with state := .lapsed, since := x } := by
  simp [Record.lapse, h]

/-- What PUT CREDENTIAL stores. -/
theorem Credential.stored_storedAs (c : Credential) (now edition : Nat) (lastUse : Option LastUse) :
    c.StoredAs now edition lastUse (c.stored now edition lastUse) := by
  unfold Credential.stored
  cases hv : c.validUntil with
  | none => constructor <;> simp [Record.lapses, hv]
  | some u =>
    by_cases hu : u ≤ now
    · constructor <;> simp [Record.lapses, Record.lapse, hu, hv]
    · constructor <;> simp [Record.lapses, hu, hv]

/-- The lapse of a lawful record that is neither SPENT nor LAPSED is lawful. -/
theorem Record.lawful_lapse {r : Record} {now : Nat} (h : r.budget ≠ some 0) (hl : r.lapses now = true) :
    r.lapse.Lawful := by
  obtain ⟨x, hx, _⟩ := (Record.lapses_iff r now).1 hl
  rw [Record.lapse_eq hx]
  exact ⟨by simp [h], fun _ => hx⟩

theorem Record.Lawful.budget_ne {r : Record} (h : r.Lawful) (hs : r.state ≠ .spent) : r.budget ≠ some 0 :=
  fun hb => hs (h.1.1 hb)

/-- The write-back of step 8 keeps a lawful ACTIVE record lawful. -/
theorem Record.lawful_writeBack {r : Record} (h : r.Lawful) (ha : r.state = .active) (cont : Bool)
    (origin now second : Nat) : (r.writeBack cont origin now second).Lawful := by
  have hb := h.budget_ne (by simp [ha])
  unfold Record.writeBack
  cases hbud : r.budget with
  | none => exact ⟨by simp [hbud, ha], by simp [ha]⟩
  | some b =>
    cases cont with
    | true => exact ⟨by simpa [hbud, ha] using hb, by simp [ha]⟩
    | false =>
      by_cases h1 : b - 1 = 0
      · constructor <;> simp [h1]
      · simp only [h1, if_false]
        refine ⟨?_, by simp [ha]⟩
        simp only [Option.some.injEq, h1, ha, reduceCtorEq]

/-- A reversal keeps a lawful record lawful. -/
theorem Record.lawful_reversed {r : Record} (h : r.Lawful) (g : Grant) (now : Nat) : (r.reversed g now).Lawful := by
  have hr : (r.reversed g now).state = .lapsed → (r.reversed g now).validUntil = some (r.reversed g now).since := by
    unfold Record.reversed
    by_cases hu : r.lastUse = some g.useWritten <;> cases r.budget <;> cases g.budgetTaken <;>
      by_cases hs : r.state = .spent <;> simp [hu, hs] <;> exact h.2
  exact ⟨by
    have h1 := h.1
    unfold Record.reversed
    by_cases hu : r.lastUse = some g.useWritten <;> cases hb : r.budget <;> cases g.budgetTaken <;>
      by_cases hs : r.state = .spent <;> simp_all, hr⟩

/-! ## The writes of PUT CREDENTIAL (R15 to R18) -/

theorem writtenForm_eq (b : Bucket) (w : Way) (r : Record) : writtenForm b w r = writtenBytes b w r.edition r.state := rfl

/-- A replacement rewrites the one slot and ends the command. -/
theorem State.putReplace_spec (u : State) (c : Credential) (b : Bucket) (w : Way) (old : Record) :
    let edition := (u.store.edition + 1) % 65536
    let r := c.stored u.now edition old.lastUse
    u.RewritesAndEnds b w r edition .okReplaced (writtenBytes b w edition r.state) (u.putReplace c b w old) := by
  intro edition r
  have hr : r.edition = edition := (c.stored_storedAs _ _ _).edition
  refine ⟨Table.get_put_self _ _ _, fun _ _ h => Store.slot_write_other _ _ h, rfl, rfl, ?_⟩
  have hf : writtenForm b w r = writtenBytes b w edition r.state := by rw [writtenForm_eq, hr]
  show State.finish _ _ (writtenForm b w r) = _
  rw [State.finish_eq, hf]
  rfl

/-- A list written into `n` bytes takes `n` bytes. -/
theorem padded_length (n : Nat) (l : List Byte) : (padded n l).length = n := by simp [padded]

end Sys2Proof.Machine
end

