-- ==== Sys2Proof/Laws/Timers.lean ====
section
/-! SUPPORT. When a timer's row is an event, said once for each counter, and what a RESTART leaves in each field. -/

namespace Sys2Proof.Machine

/-! ## Timers (R40, R136, R142, R161) -/

/-- A tick may fall at any time from an EXTERNAL source, and from INTERNAL once the divider has completed one second. -/
theorem State.tickDue_iff (s : State) : s.tickDue = true ↔ (s.clock.source = .internal → 1000 ≤ s.clock.divider) := by
  cases h : s.clock.source
  · simp only [State.tickDue, h]
    exact ⟨fun x _ => of_decide_eq_true x, fun x => decide_eq_true (x trivial)⟩
  · simp [State.tickDue, h]

/-- An offer's expiry is due exactly where its entry is OFFERED and its deadline has come. -/
theorem State.offerDue_iff (s : State) (e : Fin 64) :
    s.offerDue e = true ↔
      ∃ en tag d x, s.entries[e] = some en ∧ en.state = .offered tag d x ∧ d ≤ s.reference := by
  unfold State.offerDue
  cases he : s.entries[e] with
  | none => simp
  | some en =>
    cases hs : en.state with
    | offered tag d x =>
      simp only [hs]
      refine ⟨fun h => ⟨en, tag, d, x, rfl, hs, of_decide_eq_true h⟩, fun ⟨_, _, _, _, he', h, hd⟩ => ?_⟩
      cases he'
      rw [hs] at h
      cases h
      exact decide_eq_true hd
    | _ => simp [hs]

/-- The rows that fall due in a millisecond, by what each counter says. -/
theorem State.due_eq (s : State) :
    s.due
      = (if s.clock.source = .internal ∧ 1000 ≤ s.clock.divider then [.internalTick] else [])
        ++ (if s.sweeper.timer = some 0 then [.sweepIntervalExpiry] else [])
        ++ (if s.dispatch.checkTimer = some 0 then [.linkCheckTimer] else [])
        ++ ((List.finRange 64).filter s.offerDue).map .offerExpiry
        ++ (if s.attention.release ≠ 0 then [.attnPulseEnd] else []) := by
  unfold State.due
  congr 4
  cases h : s.clock.source
  · simp only [true_and, State.tickDue_iff, h, forall_const]
  · simp

/-- An interval timer that does not stand at 0 does not expire. -/
theorem execSweepIntervalExpiry_running {s : State} (h : s.sweeper.timer ≠ some 0) :
    execSweepIntervalExpiry s = .next s := by
  simp [execSweepIntervalExpiry, h]

/-- An offer whose deadline has not come does not expire. -/
theorem execOfferExpiry_early {s : State} {e : Fin 64} (h : s.offerDue e = false) : execOfferExpiry e s = .next s := by
  unfold State.offerDue at h
  unfold execOfferExpiry
  split
  · rfl
  · cases he : s.entries[e] with
    | none => rfl
    | some en => cases hs : en.state <;> simp_all [not_le]

/-! ## RESTART (R182) -/

@[simp] theorem State.restarted_store (s : State) : s.restarted.store = s.store := rfl
@[simp] theorem State.restarted_holidays (s : State) : s.restarted.holidays = s.holidays := rfl
@[simp] theorem State.restarted_profiles (s : State) : s.restarted.profiles = s.profiles := rfl
@[simp] theorem State.restarted_live (s : State) : s.restarted.live = s.live := rfl
@[simp] theorem State.restarted_lobbies (s : State) : s.restarted.lobbies = s.lobbies := rfl
@[simp] theorem State.restarted_settings (s : State) : s.restarted.settings = s.settings := rfl
@[simp] theorem State.restarted_emg (s : State) : s.restarted.emg = s.emg := rfl
@[simp] theorem State.restarted_reference (s : State) : s.restarted.reference = s.reference := rfl
@[simp] theorem State.restarted_pending (s : State) : s.restarted.pending = s.pending := rfl
@[simp] theorem State.restarted_banks (s : State) :
    s.restarted.banks = s.banks.map Bank.warm := rfl
@[simp] theorem State.restarted_clock (s : State) :
    s.restarted.clock = s.clock.warm := rfl
@[simp] theorem State.restarted_staged (s : State) :
    s.restarted.staged = s.live := rfl
@[simp] theorem State.restarted_entries (s : State) :
    s.restarted.entries = Vector.replicate 64 none := rfl
@[simp] theorem State.restarted_links (s : State) :
    s.restarted.links = s.links.map Link.warm := rfl
@[simp] theorem State.restarted_watch (s : State) :
    s.restarted.watch = { s.watch with record := none, count := 0 } := rfl
@[simp] theorem State.restarted_dispatch (s : State) :
    s.restarted.dispatch = { resetDispatch with checkTimer := some 1000, queue := [.linkCheck] } := rfl
@[simp] theorem State.restarted_trips (s : State) :
    s.restarted.trips = [] := rfl
@[simp] theorem State.restarted_sweeper (s : State) :
    s.restarted.sweeper = resetSweeper s.settings.timers.sweepInterval := rfl
@[simp] theorem State.restarted_port (s : State) :
    s.restarted.port = { engine := .idle, outcome := .none, indication := .warm, buffer := none, out := s.port.out } := rfl
@[simp] theorem State.restarted_attention (s : State) :
    s.restarted.attention = { s.attention with pending := 0, release := 0 } := rfl
@[simp] theorem State.restarted_inReset (s : State) :
    s.restarted.inReset = false := rfl

end Sys2Proof.Machine
end

