-- ==== Sys2Proof/Tests/Slice0.lean ====
section
/-! SUPPORT. Tests of the model, each on one step of a small state, with the expected result taken from the manual (the rule or
worked case is named), the checks of well-formedness on ill-formed commands, and for each statement of
Certificates/Slice0/Obligations.lean a concrete state and operands that meet its hypotheses. -/

namespace Sys2Proof.Tests

open Machine

/-! ## Fixtures -/

/-- The next state of a step, if it has one. -/
def next? (o : Host.Outcome State Fault Refusal) : Option State :=
  match o with
  | .next s => some s
  | .fault _ => none
  | .refused _ => none

/-- The result code and bytes a command left in the buffer. -/
def result (o : Host.Outcome State Fault Refusal) : Option (Option Result) := (next? o).map fun s => s.port.buffer

/-- The badge of the worked cases: site 12, card 40,917 (5.11). -/
def badge : Key := { site := 12, card := 40917 }

/-- The record of the badge, with a state, budget, last use and valid until. -/
def badgeRecord (st : RecordState) (budget : Option Nat) (lastUse : Option LastUse) (until' : Option Nat) : Record :=
  { key := badge, state := st, since := 1000, holder := .staff, profiles := [7, 31], personal := [88],
    defaultFloor := none, validFrom := none, validUntil := until', budget := budget, assist := false, lastUse := lastUse,
    edition := 408 }

/-- A request of the badge at drop 3 of link 0 in lobby 0 (5.11). -/
def request : Request := { number := 41, kind := .destination, key := badge, requested := some 64, assist := false }

/-- The pending entry of that request in a state. -/
def entry (st : EntryState) : Entry :=
  { link := 0, drop := 2, lobby := 0, origin := 0, kind := .destination, key := badge, requested := some 64,
    assist := false, state := st, found := none, grant := none }

def found : Found := { bucket := 1882, way := 1, edition := 408 }

def use1 : LastUse := { floor := 0, second := 70359150 }

def grant : Grant :=
  { route := { group := 9, target := 57, finalFloor := 64, tripNeeded := true }, budgetTaken := false,
    useWritten := use1, previous := none }

/-- The entry after its decision. -/
def offeredEntry (sent : Bool) : Entry :=
  { entry (.offered 17 1500 sent) with found := some found, grant := some grant }

/-- The clock of 5.11: day 814, Tuesday, 08:12:30. -/
def clock814 : Clock :=
  { state := .running, day := 814, weekday := 1, minute := 492, second := 30, source := .internal, divider := 0 }

/-- A part with a running clock, an active dispatch link and the site listed. -/
def base : State :=
  { State.reset with
    clock := clock814
    dispatch := { State.reset.dispatch with state := .active, timeouts := 0, queue := [], checkTimer := none }
    settings := { State.reset.settings with sites := [12] } }

/-- A floor map with floor 0 in zone 0 and floors 57 and 64 in zone 3, the shuttle group 9 and the local groups 0 and 5
(4.6). -/
def map46 : FloorMap :=
  { count := 96
    zones := ((coldMap.zones.set 0 (some 0)).set 57 (some 3)).set 64 (some 3)
    served := ((coldMap.served.set 0 [0, 12]).set 5 [57, 64]).set 9 [0, 57]
    zoneTable :=
      (coldMap.zoneTable.set 0 { localGroup := some 0, standby := none }).set 3 { localGroup := some 5, standby := none }
    transfers := coldMap.transfers.set 3 (some { group := 9, floor := 57 }) }

/-- The part with that map live and a passback window of 20 s in lobby 0. -/
def tower : State :=
  { base with live := map46, staged := map46, lobbies := base.lobbies.set 0 { origin := 0, window := 20, policy := .shut } }

/-- The part with a record in a way. -/
def holding (s : State) (b : Bucket) (w : Way) (r : Record) : State := { s with store := s.store.place b w r }

/-- The part with a pending entry. -/
def withEntry (s : State) (e : Fin 64) (en : Entry) : State := s.setEntry e (some en)

/-- The part with bank `n` at a position of the cold pattern, with these queues. -/
def atBank (s : State) (n : Fin 4) (position : Fin 8) (lookup : List LookupRequest) (upkeep : List UpkeepRequest)
    (sweep : List Bucket) : State :=
  { s with
    banks := s.banks.set n
      { pattern := coldPattern, staged := none, position := position, lookup := lookup, upkeep := upkeep, sweep := sweep } }

/-- The part with link 0 enabled and drop 3 in a state, with a transaction and a side answer. -/
def withDrop (s : State) (st : DropState) (tr : Option Transaction) (side : Option SideAnswer) : State :=
  { s with
    links := s.links.set 0
      { settings := { enabled := true, granularity := .power, divisor := 0, limit := 4 }
        drops := (s.links[(0 : Fin 4)]).drops.set 2
          { coldDrop with state := st, transaction := tr, side := side }
        walk := 0
        poll := none } }

/-- The part while a poll of drop 3 is under way. -/
def polling (s : State) (item : PollItem) : State :=
  { s with
    links := s.links.set 0 { s.links[(0 : Fin 4)] with
      walk := 3, poll := some { drop := 2, item := item, settings := s.links[(0 : Fin 4)].settings } } }

/-- The part with the engine WORKING on a store command. -/
def working : State := { base with port := { base.port with engine := .working } }

/-- The part with a result in the buffer. -/
def done : State :=
  { base with
    port := { base.port with engine := .done, buffer := some { code := .ok, bytes := [1, 2] } }
    attention := { base.attention with pending := 65, enables := 65, mode := .pulse } }

/-! ## Well-formedness: each check refuses an ill-formed command -/

theorem test_wf_frame_error_good_frame : WellFormed (.frameError .same [195, 80, 0, 176]) = false := by decide
theorem test_wf_frame_error_no_byte : WellFormed (.frameError .same []) = false := by decide
theorem test_wf_frame_error_response : WellFormed (.frameError .same [60, 1]) = false := by decide
theorem test_wf_frame_error_bad_sum : WellFormed (.frameError .same [195, 80, 0, 175]) = true := by decide
theorem test_wf_unknown_known_code : WellFormed (.unknownCommand .same 80 []) = false := by decide
theorem test_wf_response_no_clock : WellFormed (.response .same 0) = false := by decide
theorem test_wf_arguments_too_long : WellFormed (.setClosures .same (List.replicate 256 0)) = false := by
  decide +kernel
theorem test_wf_poll_answer_short : WellFormed (.pollAnswer 0 [126, 3, 2, 1, 0, 6]) = false := by decide
theorem test_wf_poll_answer_whole : WellFormed (.pollAnswer 0 [126, 3, 2, 1, 0, 6, 20]) = true := by decide
theorem test_wf_bad_frame_good : WellFormed (.dispatchBadFrame [126, 35, 0, 35, 70]) = false := by decide
theorem test_wf_bad_frame_check : WellFormed (.dispatchBadFrame [126, 35, 0, 35, 71]) = true := by decide
theorem test_wf_bad_frame_overlong : WellFormed (.dispatchBadFrame [126, 32, 8]) = true := by decide
theorem test_wf_bad_frame_part : WellFormed (.dispatchBadFrame [126, 32, 7]) = false := by decide

/-! ## Frames written out in the manual -/

/-- 11.5: the IDLE answer of address 3, TAMPER clear. -/
theorem test_frame_idle : frame [3, 2, 1, 0] = [126, 3, 2, 1, 0, 6, 20] := by decide
/-- 11.5: with TAMPER set the check bytes are 7 and 21. -/
theorem test_frame_tamper : readAnswer 2 [126, 3, 2, 1, 1, 7, 21] = some { tamper := true, request := none } := by decide
/-- R185: the check must be equal in both bytes, and the address that of the drop polled. -/
theorem test_frame_check_fails : readAnswer 2 [126, 3, 2, 1, 1, 7, 20] = none := by decide
theorem test_frame_other_drop : readAnswer 1 [126, 3, 2, 1, 0, 6, 20] = none := by decide
/-- 11.5: SWEEP NOW is the transaction 195, 80, 0, 176. -/
theorem test_port_sweep_now : decodePort .same [195, 80, 0, 176] = some (.sweepNow .same []) := by decide
theorem test_port_sweep_now_written : encodePort (.sweepNow .same []) = some [195, 80, 0, 176] := by decide
/-- R171, R191: one byte more than the length says is a frame error; 60 is a RESPONSE; other kinds are discarded. -/
theorem test_port_long : decodePort .same [195, 80, 0, 176, 0] = some (.frameError .same [195, 80, 0, 176, 0]) := by decide
theorem test_port_response : decodePort .working [60, 9, 9] = some (.response .working 3) := by decide
theorem test_port_unknown : decodePort .same [195, 81, 0, 175] = some (.unknownCommand .same 81 []) := by decide
/-- R189: ASSIGN of tag 17, car 4: covered 32, 2, 17, 4; A runs 32, 34, 51, 55, and B runs 32, 66, 117, 172. -/
theorem test_dispatch_assign : readDispatch [126, 32, 2, 17, 4, 55, 172] = some (.assign 17 4) := by decide
/-- R131: car 16 is out of range: A ends 67 and B 184. -/
theorem test_dispatch_assign_car : readDispatch [126, 32, 2, 17, 16, 67, 184] = none := by decide
/-- R189: DECLINE GROUP_OUT of tag 90: A runs 33, 35, 125, 127, and B runs 33, 68, 193, 320 mod 255 = 65. -/
theorem test_dispatch_decline : readDispatch [126, 33, 2, 90, 2, 127, 65] = some (.decline 90 .groupOut) := by decide
/-- R189: GROUP STATE of group 9, IN_SERVICE: A runs 34, 36, 45, 45, and B runs 34, 70, 115, 160. -/
theorem test_dispatch_group : readDispatch [126, 34, 2, 9, 0, 45, 160] = some (.groupState 9 .inService) := by decide
/-- R189: the notice (4, SERVED, SHUT): A runs 17, 20, 24, 25, 25, and B runs 17, 37, 61, 86, 111. -/
theorem test_dispatch_notice : dispatchFrame (.notice 4 .served .shut) = [126, 17, 3, 4, 1, 0, 25, 111] := by decide
/-- R187: HOLD_BUSY with request number 41 to address 3: covered 3, 1, 3, 1, 19, 41. -/
theorem test_poll_reply : (pollFrame 2 (.reply (.plain .holdBusy) 41)).take 7 = [126, 3, 1, 3, 1, 19, 41] := by decide
/-- R187: ACCEPT carries seven fields. -/
theorem test_poll_accept : (pollFrame 2 (.reply (.accept 9 4 57 true) 41)).take 11 = [126, 3, 1, 7, 1, 0, 41, 9, 4, 57, 1] := by
  decide

/-! ## Placement, clock readings and windows -/

/-- 1.2: worked placements. -/
theorem test_home_badge : badge.home = 3929 ∧ badge.alternate = 1882 ∧ bankOf badge.home = 1 ∧ bankOf badge.alternate = 2 := by
  decide
theorem test_home_wraps : (Key.mk 0 4095).home = 4095 ∧ (Key.mk 0 4095).alternate = 2048 ∧ bankOf (Key.mk 0 4095).alternate = 0 := by
  decide
theorem test_home_greatest : (Key.mk 1023 1048575).home = 2740 ∧ (Key.mk 1023 1048575).alternate = 693 := by decide
/-- 3.1: worked tick carries. -/
theorem test_site_minute : (Clock.mk .running 812 6 1439 58 .external 0).siteMinute = 1170719
    ∧ (Clock.mk .running 812 6 1439 58 .external 0).siteSecond = 70243198 := by decide
/-- 3.5: the overnight window at 22:00, and at 05:59 and 06:00 of the day after. -/
theorem test_window_evening : (Window.mk 31 1320 1800).isOpen 1 0 1320 = true := by decide
theorem test_window_early : (Window.mk 31 1320 1800).isOpen 5 4 359 = true := by decide
theorem test_window_end : (Window.mk 31 1320 1800).isOpen 5 4 360 = false := by decide
/-- 3.5: the Monday row and the holiday row. -/
theorem test_window_monday : (Window.mk 31 1320 1800).isOpen 0 6 190 = false := by decide
theorem test_window_holiday : (Window.mk 31 1320 1800).isOpen 5 7 190 = false := by decide
/-- 4.6: the route from floor 0 to floor 64, and with group 9 OUT_OF_SERVICE. -/
theorem test_route_shuttle :
    (map46.route (Vector.replicate 12 .inService) 0 64).toOption
      = some { group := 9, target := 57, finalFloor := 64, tripNeeded := true } := by decide
theorem test_route_shuttle_out :
    (match map46.route ((Vector.replicate 12 .inService).set 9 .outOfService) 0 64 with
     | .error c => some c
     | .ok _ => none) = some .holdUnavailable := by decide

/-! ## Resets and lines -/

/-- R146, R181: the end of a cold reset queues the first LINK CHECK. -/
theorem test_cold_reset : (next? (exec (.coldReset true) base)).map (fun t => (t.dispatch.queue, t.clock.state, t.inReset))
    = some ([.linkCheck], .unset, false) := by decide
/-- R181: with RESET_N low the part stays in reset. -/
theorem test_cold_reset_low : (next? (exec (.coldReset false) base)).map (fun t => (t.dispatch.queue, t.inReset))
    = some ([], true) := by decide
/-- R46, R76: a warm reset leaves the clock UNSET and keeps the Site List. -/
theorem test_warm_reset : (next? (exec .warmReset base)).map (fun t => (t.clock.state, t.settings.sites, t.port.indication))
    = some (.unset, [12], .warm) := by decide
theorem test_reset_end : (next? (exec .resetEnd State.cold)).map (fun t => (t.inReset, t.dispatch.checkTimer))
    = some (false, some 1000) := by decide
/-- R182: RESTART keeps what a warm reset keeps and delivers no result. -/
theorem test_restart : (next? (exec (.restart .same []) base)).map (fun t => (t.inReset, t.port.buffer, t.settings.sites))
    = some (false, none, [12]) := by decide
/-- R170, R182: RESTART's own transaction has shown the status byte (outcome NONE, indication COLD, engine IDLE) and fill. -/
theorem test_restart_out : (next? (exec (.restart .same []) base)).map (fun t => (t.port.out, t.port.indication))
    = some ([16, 0, 0, 0], .warm) := by decide
/-- R181: a COMMAND that ends after a reset, its chip select having fallen before it, is discarded and writes no outcome. -/
theorem test_command_from_before_reset : (next? (exec (.sweepNow .beforeReset []) base)).map
    (fun t => (t.port.outcome, t.port.engine, t.sweeper.state)) = some (.none, .idle, .idle) := by decide
/-- R102: the waiting probe is withdrawn and the entry freed. -/
theorem test_emg_assert :
    (next? (exec .emgAssert
      (atBank (withEntry base 6 (entry .probeHome)) 1 0 [{ bucket := 3929, entry := 6, kind := .probe }] [] []))).map
        (fun t => (t.emg, t.entries[6], t.banks[1].lookup)) = some (true, none, []) := by decide +kernel
/-- R102: an OFFERED entry is untouched. -/
theorem test_emg_assert_offered :
    (next? (exec .emgAssert (withEntry base 6 (offeredEntry true)))).map (fun t => t.entries[6])
      = some (some (offeredEntry true)) := by decide +kernel
theorem test_emg_release : (next? (exec .emgRelease { base with emg := true })).map State.emg = some false := by decide

/-! ## Ticks -/

/-- 3.1: the TICK edge at day 812, weekday 6, 23:59:59. -/
theorem test_tick_edge :
    (next? (exec .tickEdge
      { base with
        clock := { state := .running, day := 812, weekday := 6, minute := 1439, second := 59, source := .external,
                   divider := 0 } })).map (fun t => (t.clock.day, t.clock.weekday, t.clock.minute, t.clock.second))
      = some (813, 0, 0, 0) := by decide
/-- 3.1: an edge after the change to INTERNAL has no effect. -/
theorem test_tick_edge_internal : (next? (exec .tickEdge base)).map (fun t => t.clock.second) = some 30 := by decide
theorem test_internal_tick : (next? (exec .internalTick { base with clock := { clock814 with divider := 1000 } })).map
    (fun t => (t.clock.second, t.clock.divider)) = some (31, 0) := by decide
/-- R43: SET CLOCK has restarted the divider, so an internal tick that was due before it gives no tick. -/
theorem test_internal_tick_restarted : (next? (exec .internalTick base)).map (fun t => t.clock.second) = some 30 := by decide
/-- 3.1, R42: the tick at the end of range. -/
theorem test_clock_end :
    (next? (exec .clockEnd
      { base with
        clock := { state := .running, day := 65535, weekday := 3, minute := 1439, second := 59, source := .external,
                   divider := 0 } })).map (fun t => (t.clock.state, t.clock.day, t.attention.pending))
      = some (.ended, 65535, 128) := by decide
/-- R151: remaining 1 is removed, remaining 300 falls to 299. -/
theorem test_trip_expiry :
    (next? (exec .tripExpiry
      { base with
        clock := { clock814 with divider := 1000 }
        trips := [{ key := badge, transfer := 57, finalFloor := 64, group := 9, remaining := 1 },
                  { key := ⟨12, 1⟩, transfer := 57, finalFloor := 64, group := 9, remaining := 300 }] })).map
        (fun t => t.trips.map fun x => (x.key.card, x.remaining)) = some [(1, 299)] := by decide
/-- R152: the trips are frozen while EMG is asserted. -/
theorem test_trip_frozen :
    (next? (exec .internalTick
      { base with
        clock := { clock814 with divider := 1000 }
        emg := true
        trips := [{ key := badge, transfer := 57, finalFloor := 64, group := 9, remaining := 45 }] })).map
        (fun t => t.trips.map Trip.remaining) = some [45] := by decide

/-! ## The maintenance port -/

theorem test_frame_error : (next? (exec (.frameError .same [195, 80, 0, 175]) base)).map (fun t => (t.port.outcome, t.port.out))
    = some (.frameError, [16, 0, 0, 0]) := by decide
theorem test_frame_error_refused : exec (.frameError .same [195, 80, 0, 176]) base matches .refused .notThisEvent := by decide
theorem test_unknown_command : result (exec (.unknownCommand .same 81 []) base) = some (some ⟨.unknownCommand, []⟩) := by decide
/-- R174: one byte clocked out consumes nothing, two do. -/
theorem test_response_one : (next? (exec (.response .same 1) done)).map (fun t => (t.port.engine, t.port.out))
    = some (.done, [18]) := by decide
theorem test_response_two : (next? (exec (.response .same 5) done)).map
    (fun t => (t.port.engine, t.port.out, t.attention.pending, t.attention.release))
      = some (.idle, [18, 0, 2, 1, 2], 1, 2) := by decide
/-- R191: WORKING in bits 0 and 1, FRAME_ERROR in bits 2 and 3, WARM in bits 4 and 5. -/
theorem test_status_byte : ({ base with
      port := { engine := .working, outcome := .frameError, indication := .warm, buffer := none, out := [] } } : State).statusByte
    .same = 45 := by decide
/-- R172: in WORKING a command is discarded. -/
theorem test_working : (next? (exec (.sweepNow .same []) working)).map (fun t => (t.port.engine, t.port.outcome))
    = some (.working, .refusedBusy) := by decide

/-! ## Store commands and their turns -/

/-- 1.5: PUT CREDENTIAL of the badge queues phase 1 on bank 2 for bucket 1,882. -/
theorem test_put_taken :
    (next? (exec (.putCredential .same
      [0, 12, 0, 159, 213, 1, 0, 0, 2, 7, 31, 0, 0, 1, 88, 0, 0, 0, 0, 0, 0, 0, 0, 0, 0, 0, 0, 0]) base)).map
        (fun t => (t.port.engine, (t.banks[2].upkeep.map fun q => (q.bucket, q.phase)))) = some (.working, [(1882, .first)]) := by
  decide
/-- R14: a state of SPENT is refused. -/
theorem test_put_spent :
    result (exec (.putCredential .same
      [0, 12, 0, 159, 213, 3, 0, 0, 2, 7, 31, 0, 0, 1, 88, 0, 0, 0, 0, 0, 0, 0, 0, 0, 0, 0, 0, 0]) base)
        = some (some ⟨.badArg, []⟩) := by decide

/-- The credential of the badge (5.11). -/
def badgeCredential : Credential :=
  { key := badge, state := .active, holder := .staff, profiles := [7, 31], personal := [88], defaultFloor := none,
    validFrom := none, validUntil := none, budget := none, assist := false }

/-- 1.5: phase 3 places the record in way 1 where way 0 is taken, with edition 408, and ends OK_NEW. -/
theorem test_put_third :
    (next? (exec (.bankTurn 2)
      { atBank (holding working 1882 0 { badgeRecord .active none none none with key := ⟨0, 1882⟩ }) 2 1 []
          [{ bucket := 1882, command := .put badgeCredential, phase := .third }] [] with
        store := { slots := [(7528, { badgeRecord .active none none none with key := ⟨0, 1882⟩ })], occupancy := 12040, edition := 407 } })).map
        (fun t => (t.port.buffer, t.store.occupancy, t.store.edition))
      = some (some ⟨.okNew, [7, 90, 1, 1, 152, 1]⟩, 12041, 408) := by decide
/-- 1.5: phase 1 without the key queues phase 2 on bank 1 for bucket 3,929. -/
theorem test_put_first :
    (next? (exec (.bankTurn 2)
      (atBank working 2 1 [] [{ bucket := 1882, command := .put badgeCredential, phase := .first }] []))).map
        (fun t => (t.port.engine, t.banks[1].upkeep.map fun q => (q.bucket, q.phase), t.banks[2].position))
      = some (.working, [(3929, .second)], 2) := by decide
theorem test_get_taken : (next? (exec (.getCredential .same [0, 12, 0, 159, 213]) base)).map
    (fun t => t.banks[1].upkeep) = some [{ bucket := 3929, command := .get badge, phase := .first }] := by decide
theorem test_drop_turn :
    (next? (exec (.bankTurn 2)
      (atBank (holding working 1882 1 (badgeRecord .active none none none)) 2 5 []
        [{ bucket := 1882, command := .drop badge, phase := .second }] []))).map
        (fun t => (t.store.slots, t.store.occupancy, t.port.buffer))
      = some ([], 0, some ⟨.ok, [7, 90, 1, 0, 0, 0, 0, 0, 0]⟩) := by decide
theorem test_drop_taken : result (exec (.dropCredential .same [4, 0, 0, 0, 1]) base) = some (some ⟨.badArg, []⟩) := by decide
/-- R20: SUSPENDED on an ACTIVE record takes an edition; on a SPENT record it ends WRONG_STATE. -/
theorem test_set_state_turn :
    (next? (exec (.bankTurn 2)
      (atBank (holding working 1882 1 (badgeRecord .active none none none)) 2 5 []
        [{ bucket := 1882, command := .setState badge false, phase := .second }] []))).map
        (fun t => t.port.buffer) = some (some ⟨.ok, [7, 90, 1, 0, 1, 2]⟩) := by decide
theorem test_set_state_lapsed_named : result (exec (.setState .same [0, 12, 0, 159, 213, 4]) base) = some (some ⟨.badArg, []⟩) := by
  decide
/-- R21: REPLENISH of a SPENT record makes it ACTIVE; a count of 0 is refused. -/
theorem test_replenish_turn :
    (next? (exec (.bankTurn 2)
      (atBank (holding working 1882 1 (badgeRecord .spent (some 0) none none)) 2 5 []
        [{ bucket := 1882, command := .replenish badge (some 5), phase := .second }] []))).map
        (fun t => t.port.buffer) = some (some ⟨.ok, [7, 90, 1, 0, 1, 1, 1, 5]⟩) := by decide
theorem test_replenish_zero : result (exec (.replenish .same [0, 12, 0, 159, 213, 1, 0]) base) = some (some ⟨.badArg, []⟩) := by decide
theorem test_read_slot_free :
    (next? (exec (.bankTurn 2) (atBank working 2 1 [] [{ bucket := 1882, command := .readSlot 1882 3, phase := .first }] []))).map
        (fun t => t.port.buffer) = some (some ⟨.ok, [7, 90, 3, 0]⟩) := by decide
theorem test_read_slot_bucket : result (exec (.readSlot .same [16, 0, 0]) base) = some (some ⟨.badArg, []⟩) := by decide

/-! ## Probes, decisions, reversals and sweep turns -/

/-- 5.11: the home probe that does not find the badge queues the alternate probe on bank 2. -/
theorem test_probe_home :
    (next? (exec (.bankTurn 1)
      (atBank (withEntry tower 6 (entry .probeHome)) 1 0 [{ bucket := 3929, entry := 6, kind := .probe }] [] []))).map
        (fun t => (t.entries[6].map Entry.state, t.banks[2].lookup))
      = some (some .probeAlt, [{ bucket := 1882, entry := 6, kind := .probe }]) := by decide
/-- 5.11: the deciding turn at 08:12:30: OFFER of group 9, target 57, final floor 64, with the tag of the counter. -/
theorem test_decision :
    (next? (exec (.bankTurn 2)
      (atBank (withEntry
        { holding { tower with profiles := tower.profiles.set 7 { floors := [61, 62, 63, 64, 65, 66], windows := [⟨31, 420, 1200⟩] } }
            1882 1 (badgeRecord .active none none none) with
          dispatch := { tower.dispatch with tagCounter := 17 } } 6 (entry .probeAlt))
        2 0 [{ bucket := 1882, entry := 6, kind := .probe }] [] []))).map
        (fun t => (t.entries[6], t.dispatch.queue, t.dispatch.tagCounter, t.store.slot 1882 1))
      = some (some (offeredEntry false),
          [.offer (some 6) { tag := 17, group := 9, origin := 0, target := 57, finalFloor := 64, assist := false, kind := .new }],
          18, some (badgeRecord .active none (some use1) none)) := by decide
/-- R89: floor 64 without profile 7's window open is no effective floor. -/
theorem test_decision_floor :
    (holding tower 1882 1 (badgeRecord .active none none none)).decision (entry .probeAlt) (badgeRecord .active none none none)
      = .answer .denyFloor := by decide
/-- 5.11: the reversal restores the last use and frees the entry. -/
theorem test_reversal :
    (next? (exec (.bankTurn 2)
      (atBank (withEntry (holding tower 1882 1 (badgeRecord .active none (some use1) none)) 6
          { offeredEntry true with state := .reversing })
        2 0 [{ bucket := 1882, entry := 6, kind := .reversal }] [] []))).map
        (fun t => (t.entries[6], t.store.slot 1882 1)) = some (none, some (badgeRecord .active none none none)) := by decide
/-- 9.6: way 0 retired, way 2 lapsed; pointer 2,211, whose request joins bank 3. -/
theorem test_sweep_turn :
    (next? (exec (.bankTurn 2)
      (atBank
        { base with
          clock := { clock814 with day := 815, minute := 1400 }
          sweeper := { base.sweeper with state := .passing, pointer := 2210, passLapsed := 37, passRetired := 112 }
          store :=
            { slots :=
                [(8840, { badgeRecord .spent (some 0) none none with key := ⟨0, 2210⟩, since := 1173500 }),
                 (8842, { badgeRecord .suspended none none (some 1174980) with key := ⟨0, 161⟩, since := 1171200 }),
                 (8843, { badgeRecord .lapsed none none (some 1173600) with key := ⟨0, 10402⟩, since := 1173600 })]
              occupancy := 12530, edition := 0 } }
        2 3 [] [] [2210]))).map
        (fun t => (t.store.slots.map fun x => (x.1, x.2.state, x.2.since), t.store.occupancy, t.sweeper.passLapsed,
          t.sweeper.passRetired, t.banks[3].sweep))
      = some ([(8842, .lapsed, 1174980), (8843, .lapsed, 1173600)], 12529, 38, 113, [2211]) := by decide
/-- R32: a SWEEP position is lent to UPKEEP while no pass is in progress. -/
theorem test_sweep_lent :
    (next? (exec (.bankTurn 2) (atBank working 2 3 [] [{ bucket := 1882, command := .readSlot 1882 0, phase := .first }] []))).map
        (fun t => t.banks[2].upkeep) = some [] := by decide
/-- R161, R163: the expiry starts a pass in IDLE with the clock RUNNING, and loads the timer again. -/
theorem test_sweep_expiry :
    (next? (exec .sweepIntervalExpiry { base with sweeper := { base.sweeper with timer := some 0 } })).map
        (fun t => (t.sweeper.state, t.sweeper.timer, t.banks[0].sweep)) = some (.passing, some 900000, [0]) := by decide
/-- R161: where SET TIMERS is taken first and has loaded the timer, the expiry does not happen at that moment. -/
theorem test_sweep_expiry_reloaded :
    (next? (exec .sweepIntervalExpiry { base with sweeper := { base.sweeper with timer := some 300000 } })).map
        (fun t => (t.sweeper.state, t.sweeper.timer)) = some (.idle, some 300000) := by decide
/-- R162: SWEEP NOW ends WRONG_STATE while the clock is not RUNNING, and OK in IDLE. -/
theorem test_sweep_now_unset : result (exec (.sweepNow .same []) State.reset) = some (some ⟨.wrongState, []⟩) := by decide
theorem test_sweep_now : result (exec (.sweepNow .same []) base) = some (some ⟨.ok, []⟩) := by decide

/-! ## Commands that end at once -/

/-- R43, R192: day 814, weekday 1, minute 492, second 30. -/
theorem test_set_clock : (next? (exec (.setClock .same [3, 46, 1, 1, 236, 30]) State.reset)).map (fun t => t.clock) = some clock814 := by
  decide
theorem test_set_clock_minute : result (exec (.setClock .same [3, 46, 1, 5, 160, 30]) base) = some (some ⟨.badArg, []⟩) := by decide
/-- R44: a change to INTERNAL restarts the divider. -/
theorem test_set_tick_source :
    (next? (exec (.setTickSource .same [0]) { base with clock := { clock814 with source := .external, divider := 700 } })).map
        (fun t => (t.clock.source, t.clock.divider)) = some (.internal, 0) := by decide
/-- R47: repeats are merged, and the days are held ascending. -/
theorem test_put_holidays :
    (next? (exec (.putHolidays .same [3, 3, 46, 0, 5, 3, 46]) base)).map (fun t => (t.holidays, t.port.buffer))
      = some ([5, 814], some ⟨.ok, [2]⟩) := by decide
theorem test_put_holidays_count : result (exec (.putHolidays .same [2, 3, 46]) base) = some (some ⟨.badArg, []⟩) := by decide
/-- R51, R52: the floor set is returned ascending, once each. -/
theorem test_put_profile :
    (next? (exec (.putProfile .same [7, 3, 62, 61, 62, 1, 31, 1, 164, 4, 176]) base)).map (fun t => t.profiles[7])
      = some { floors := [61, 62], windows := [{ days := 31, start := 420, stop := 1200 }] } := by decide
theorem test_put_profile_window :
    result (exec (.putProfile .same [7, 0, 1, 31, 4, 176, 1, 164]) base) = some (some ⟨.badArg, []⟩) := by decide
theorem test_get_profile :
    result (exec (.getProfile .same [7])
      { base with profiles := base.profiles.set 7 { floors := [61, 62], windows := [⟨31, 420, 1200⟩] } })
        = some (some ⟨.ok, [7, 2, 61, 62, 1, 31, 1, 164, 4, 176]⟩) := by decide
/-- R59: the range form and the count form. -/
theorem test_set_floor_range :
    (next? (exec (.setFloor .same [1, 37, 40, 2]) tower)).map (fun t => (t.staged.zones[37], t.staged.zones[41], t.live.zones[37]))
      = some (some 2, none, none) := by decide
theorem test_set_floor_count : (next? (exec (.setFloor .same [0, 96]) base)).map (fun t => t.staged.count) = some 96 := by decide
theorem test_set_group :
    (next? (exec (.setGroup .same [3, 3, 40, 37, 38]) tower)).map (fun t => t.staged.served[3]) = some [37, 38, 40] := by decide
/-- R61: a standby group without a local group, or equal to it, is refused. -/
theorem test_set_zone : (next? (exec (.setZone .same [3, 5, 6]) tower)).map (fun t => t.staged.zoneTable[3])
    = some { localGroup := some 5, standby := some 6 } := by decide
theorem test_set_zone_standby : result (exec (.setZone .same [3, 255, 6]) tower) = some (some ⟨.badArg, []⟩) := by decide
/-- R62: the floor of an absent entry is not read; an entry from a zone to itself is refused. -/
theorem test_set_transfer : (next? (exec (.setTransfer .same [0, 3, 255, 200]) tower)).map (fun t => t.staged.transfer 0 3)
    = some none := by decide
theorem test_set_transfer_same : result (exec (.setTransfer .same [3, 3, 9, 57]) tower) = some (some ⟨.badArg, []⟩) := by decide
/-- 4.6: floor 37 moved to zone 2 whose local group does not serve it: INVALID_MAP, UNSERVED_FLOOR, index 37. -/
theorem test_commit_map :
    result (exec (.commitMap .same []) { tower with staged := { map46 with zones := map46.zones.set 37 (some 2) } })
      = some (some ⟨.invalidMap, [1, 37]⟩) := by decide +kernel
theorem test_commit_map_ok : result (exec (.commitMap .same []) tower) = some (some ⟨.ok, []⟩) := by decide +kernel
theorem test_discard_map :
    (next? (exec (.discardMap .same []) { tower with staged := { map46 with count := 3 } })).map (fun t => t.staged.count)
      = some 96 := by decide
/-- R66, R195: the transfers of origin zone 0; a group above 11 is refused. -/
theorem test_read_map :
    result (exec (.readMap .same [0, 3, 0]) tower)
      = some (some ⟨.ok, [255, 0, 255, 0, 255, 0, 9, 57, 255, 0, 255, 0, 255, 0, 255, 0]⟩) := by decide
theorem test_read_map_group : result (exec (.readMap .same [0, 1, 12]) tower) = some (some ⟨.badArg, []⟩) := by decide
/-- R71: a window above 600 is clamped. -/
theorem test_set_lobby : result (exec (.setLobby .same [0, 57, 2, 89, 1]) base) = some (some ⟨.okClamped, [57, 2, 88, 1]⟩) := by
  decide +kernel
theorem test_set_sites : result (exec (.setSites .same [2, 0, 12, 3, 255]) base) = some (some ⟨.ok, [2, 0, 12, 3, 255]⟩) := by decide
theorem test_set_sites_twice : result (exec (.setSites .same [2, 0, 12, 0, 12]) base) = some (some ⟨.badArg, []⟩) := by decide
theorem test_set_mode : result (exec (.setMode .same [1, 9]) base) = some (some ⟨.ok, [1, 9]⟩) := by decide
theorem test_set_mode_bit : result (exec (.setMode .same [1, 16]) base) = some (some ⟨.badArg, []⟩) := by decide
theorem test_set_closures : (next? (exec (.setClosures .same [3, 9, 4, 9]) base)).map
    (fun t => (t.settings.closures, t.port.buffer)) = some ([4, 9], some ⟨.ok, [2]⟩) := by decide
/-- R79: 1,599 ms is rounded down to 1,500; the others are in their ranges. -/
theorem test_set_timers :
    result (exec (.setTimers .same [6, 63, 1, 44, 5, 160, 0, 15, 58, 152]) base)
      = some (some ⟨.ok, [5, 220, 1, 44, 5, 160, 0, 15, 58, 152]⟩) := by decide
/-- R79: an offer timeout of 100 is clamped to 200; an interval of 0 stops the timer. -/
theorem test_set_timers_clamped :
    (next? (exec (.setTimers .same [0, 100, 1, 44, 5, 160, 0, 0, 58, 152]) base)).map
        (fun t => (t.port.buffer, t.sweeper.timer))
      = some (some ⟨.okClamped, [0, 200, 1, 44, 5, 160, 0, 0, 58, 152]⟩, none) := by decide
/-- R111: an enabled drop seeks, and its lobby is UNSERVED. -/
theorem test_set_drop :
    (next? (exec (.setDrop .same [0, 3, 1, 4]) base)).map (fun t => ((t.drop 0 2).state, t.service[4])) = some (.seeking, .unserved) := by
  decide +kernel
theorem test_set_drop_address : result (exec (.setDrop .same [0, 29, 1, 4]) base) = some (some ⟨.badArg, []⟩) := by decide
theorem test_bar_drop : (next? (exec (.barDrop .same [0, 3]) base)).map (fun t => (t.drop 0 2).mode) = some .barred := by decide
theorem test_unbar_drop : (next? (exec (.unbarDrop .same [0, 3]) base)).map (fun t => (t.drop 0 2).mode) = some .serve := by decide
/-- R105: POWER's greatest divisor setting is 14 and the limit's range is 1..15. -/
theorem test_set_link : result (exec (.setLink .same [0, 1, 0, 0, 15, 0]) base) = some (some ⟨.okClamped, [1, 0, 0, 14, 1]⟩) := by
  decide +kernel
/-- R106: disabling an enabled link takes its enabled drops to SEEKING. -/
theorem test_set_link_off :
    (next? (exec (.setLink .same [0, 0, 0, 0, 0, 4]) (withDrop base .online none none))).map
        (fun t => ((t.drop 0 2).state, t.attention.pending)) = some (.seeking, 64) := by decide +kernel
theorem test_watch : (next? (exec (.watch .same [1, 0, 3]) base)).map (fun t => t.watch.selection) = some (some (0, 2)) := by decide
/-- R195: with no selection and no record, absent values are 255. -/
theorem test_read_watch :
    result (exec (.readWatch .same []) base)
      = some (some ⟨.ok, [0, 0, 0, 0, 255, 255, 255, 255, 255, 255, 255, 255, 255, 255, 0, 0, 0, 0, 0, 0, 0, 0]⟩) := by decide
/-- 2.5: the staged pattern; R34: with one LOOKUP position a pattern is refused. -/
theorem test_set_pattern :
    (next? (exec (.setPattern .same [2, 1, 1, 2, 1, 3, 1, 1, 2]) base)).map (fun t => t.banks[2].staged)
      = some (some #v[.lookup, .lookup, .upkeep, .lookup, .sweep, .lookup, .lookup, .upkeep]) := by decide
theorem test_set_pattern_lookup :
    result (exec (.setPattern .same [2, 1, 0, 2, 0, 3, 0, 0, 2]) base) = some (some ⟨.badArg, []⟩) := by decide
theorem test_read_pattern :
    result (exec (.readPattern .same [0]) base)
      = some (some ⟨.ok, [1, 2, 1, 3, 1, 2, 1, 0, 0, 0, 0, 0, 0, 0, 0, 0, 0, 0]⟩) := by decide
/-- R175: the first 16 bytes of the status picture (occupancy to tick source), and its length. -/
theorem test_read_status :
    (result (exec (.readStatus .same []) base)).map (fun r => r.map fun x => (x.bytes.take 16, x.bytes.length))
      = some (some ([0, 0, 0, 0, 0, 0, 0, 0, 1, 3, 46, 1, 1, 236, 30, 0], 171)) := by decide +kernel
theorem test_set_attention : result (exec (.setAttention .same [77, 1]) base) = some (some ⟨.ok, [77, 1, 0]⟩) := by decide
/-- R180: a clear that leaves an enabled source pending releases ATTN for 2 µs in PULSE mode. -/
theorem test_clear_attention :
    (next? (exec (.clearAttention .same [1])
      { base with attention := { base.attention with pending := 5, enables := 5, mode := .pulse } })).map
        (fun t => (t.attention.release, t.attention.pending, t.attn)) = some (2, 68, false) := by decide
/-- 10.5: clearing the last enabled sources makes no release. -/
theorem test_clear_attention_all :
    (next? (exec (.clearAttention .same [5])
      { base with attention := { base.attention with pending := 5, enables := 77, mode := .pulse } })).map
        (fun t => (t.attention.release, t.attn)) = some (0, true) := by decide
theorem test_attn_pulse_end :
    (next? (exec .attnPulseEnd
      { base with attention := { pending := 5, enables := 5, mode := .pulse, release := 2 } })).map State.attn = some true := by decide

/-! ## Request links -/

/-- R107: the poll of the lowest enabled drop carries the reply of its slot. -/
theorem test_poll :
    (next? (exec (.poll 0)
      (withDrop base .online (some { request := request, entry := none, reply := some (.plain .holdBusy) }) none))).map
        (fun t => (t.links[0].walk, t.links[0].poll.map fun p => (p.drop, p.item)))
      = some (3, some (2, .reply (.plain .holdBusy) 41)) := by decide
/-- R119: a side answer waits for no empty slot: it is discarded unsent where the reply goes. -/
theorem test_poll_side :
    (next? (exec (.poll 0)
      (withDrop base .online (some { request := request, entry := none, reply := some (.plain .holdBusy) })
        (some { code := .busy, number := 42, kind := .destination, key := badge, requested := some 64 })))).map
        (fun t => (t.drop 0 2).side) = some none := by decide
/-- R118, R82: a good REQUEST (5.11) takes an entry and queues its home probe on bank 1. -/
theorem test_poll_answer :
    (next? (exec (.pollAnswer 0 (frame [3, 3, 9, 0, 41, 1, 0, 12, 0, 159, 213, 64])) (polling (withDrop tower .online none none) .nothing))).map
        (fun t => (t.entries[0].map Entry.state, t.banks[1].lookup, (t.drop 0 2).transaction))
      = some (some .probeHome, [{ bucket := 3929, entry := 0, kind := .probe }],
          some { request := request, entry := some 0, reply := none }) := by decide +kernel
/-- R109, R118: the poll was sent before the engine posted, so its answer delivers nothing and its REQUEST gets BUSY as a side
answer beside the full slot (notes/assumptions/26.md). -/
theorem test_poll_answer_busy :
    (next? (exec (.pollAnswer 0 (frame [3, 3, 9, 0, 42, 1, 0, 12, 0, 159, 213, 64]))
      (polling (withDrop base .online (some { request := request, entry := none, reply := some (.plain .holdBusy) }) none)
        .nothing))).map
        (fun t => ((t.drop 0 2).transaction.map Transaction.reply, (t.drop 0 2).side.map SideAnswer.code))
      = some (some (some (.plain .holdBusy)), some .busy) := by decide +kernel
/-- R121: a good answer to the poll that carried the reply delivers it. -/
theorem test_poll_answer_delivers :
    (next? (exec (.pollAnswer 0 [126, 3, 2, 1, 0, 6, 20])
      (polling (withDrop base .online (some { request := request, entry := none, reply := some (.plain .holdBusy) }) none)
        (.reply (.plain .holdBusy) 41)))).map
        (fun t => (t.drop 0 2).transaction) = some none := by decide +kernel
/-- R113: the third consecutive failure takes the drop to LOST. -/
theorem test_poll_answer_timeout :
    (next? (exec (.pollAnswerTimeout 0)
      (polling
        { withDrop base .online none none with
          links := (withDrop base .online none none).links.set 0
            { (withDrop base .online none none).links[(0 : Fin 4)] with
              drops := (withDrop base .online none none).links[(0 : Fin 4)].drops.set 2 { coldDrop with state := .online, failed := 2 } } }
        .nothing))).map
        (fun t => ((t.drop 0 2).state, t.attention.pending)) = some (.lost, 1) := by decide +kernel

/-! ## The dispatch link -/

/-- 12.1: ASSIGN of tag 17 with car 4 keeps a trip of 300 seconds to floor 57, final floor 64. -/
theorem test_assign :
    (next? (exec (.assign 17 4) (withEntry base 6 (offeredEntry true)))).map (fun t => (t.entries[6], t.trips))
      = some (none, [{ key := badge, transfer := 57, finalFloor := 64, group := 9, remaining := 300 }]) := by decide +kernel
/-- R143: an ASSIGN of a tag that no outstanding offer carries is stale. -/
theorem test_assign_stale :
    (next? (exec (.assign 17 4) (withEntry base 6 (offeredEntry false)))).map
        (fun t => (t.entries[6], t.dispatch.staleAnswers)) = some (some (offeredEntry false), 1) := by decide +kernel
/-- 7.13: DECLINE GROUP_OUT takes the group OUT_OF_SERVICE and queues the reversal on bank 2. -/
theorem test_decline :
    (next? (exec (.decline 17 .groupOut) (withEntry base 6 (offeredEntry true)))).map
        (fun t => (t.dispatch.groups[9], t.banks[2].lookup)) = some (.outOfService, [{ bucket := 1882, entry := 6, kind := .reversal }]) := by
  decide +kernel
theorem test_group_state : (next? (exec (.groupState 9 .recall) base)).map (fun t => t.dispatch.groups[9]) = some .recall := by decide
/-- 7.12: a LINK ANSWER makes a SILENT link ACTIVE and re-announces the lobbies that are not VACANT. -/
theorem test_link_answer :
    (next? (exec .linkAnswer { State.reset with service := (State.reset.service.set 0 .served).set 6 .unserved })).map
        (fun t => (t.dispatch.state, t.dispatch.queue, t.attention.pending, t.dispatch.checkTimer))
      = some (.active, [.linkCheck, .notice 0 .served .shut, .notice 6 .unserved .shut], 8, none) := by decide
theorem test_bad_frame : (next? (exec (.dispatchBadFrame [126, 35, 0, 35, 71]) base)).map (fun t => t.dispatch.frameErrors) = some 1 := by
  decide
theorem test_frame_begins : (next? (exec .frameBegins base)).map (fun t => t.dispatch.receiver) = some .assembling := by decide
theorem test_frame_gap :
    (next? (exec .dispatchFrameGap { base with dispatch := { base.dispatch with receiver := .assembling } })).map
        (fun t => (t.dispatch.frameErrors, t.dispatch.receiver)) = some (1, .outside) := by decide
theorem test_frame_gap_outside : (next? (exec .dispatchFrameGap base)).map (fun t => t.dispatch.frameErrors) = some 0 := by decide
/-- R133: the head of the queue leaves on a free line. -/
theorem test_frame_transmit :
    (next? (exec .frameTransmit State.reset)).map (fun t => (t.dispatch.queue, t.dispatch.sending)) = some ([], some .linkCheck) := by decide
/-- R139: a completely sent OFFER makes the offer outstanding. -/
theorem test_frame_sent :
    (next? (exec .frameSent
      { withEntry base 6 (offeredEntry false) with
        dispatch := { base.dispatch with
          sending := some (.offer (some 6)
            { tag := 17, group := 9, origin := 0, target := 57, finalFloor := 64, assist := false, kind := .new }) } })).map
        (fun t => (t.entries[6], t.dispatch.sending)) = some (some (offeredEntry true), none) := by decide
/-- 7.12: the third expiry makes the link SILENT and queues a LINK CHECK. -/
theorem test_offer_expiry :
    (next? (exec (.offerExpiry 6)
      { withEntry base 6 (offeredEntry true) with reference := 1500, dispatch := { base.dispatch with timeouts := 2 } })).map
        (fun t => (t.dispatch.state, t.dispatch.queue, t.entries[6].map Entry.state)) = some (.silent, [.linkCheck], some .reversing) := by decide
/-- R142: an offer not yet sent leaves the queue and counts nothing. -/
theorem test_offer_expiry_unsent :
    (next? (exec (.offerExpiry 6) { withEntry base 6 (offeredEntry false) with reference := 1500 })).map
        (fun t => (t.dispatch.timeouts, t.banks[2].lookup.length)) = some (0, 1) := by decide
theorem test_link_check_timer :
    (next? (exec .linkCheckTimer { State.reset with dispatch := { State.reset.dispatch with checkTimer := some 0 } })).map
        (fun t => (t.dispatch.queue, t.dispatch.checkTimer)) = some ([.linkCheck], some 1000) := by decide

/-! ## Steps -/

/-- A step takes the front of the queue. -/
theorem test_step_front : (next? (step { base with pending := [.emgAssert, .emgRelease] })).map (fun t => (t.emg, t.pending))
    = some (true, [.emgRelease]) := by decide +kernel
/-- R40: after 1,000 ms of the reference the internal tick is due. -/
theorem test_step_idle : (next? (step { base with clock := { clock814 with divider := 999 } })).map (fun t => (t.reference, t.pending))
    = some (1, [.internalTick]) := by decide
theorem test_with_fetch_word : base.withFetchWord 8 195 = base := rfl

/-! ## Witnesses: a state and operands that meet the hypotheses of each statement, clause by clause

`Fits write valid v bad`: `v` meets `valid`, and `bad` is an argument frame that no value meeting `valid` writes. -/

structure Fits {α : Type} (write : α → List Byte) (valid : α → Prop) (v : α) (bad : List Byte) : Prop where
  good : valid v
  other : ∀ v, valid v → bad ≠ write v

theorem witness_ready : base.Ready .same ∧ done.Ready .same ∧ done.Ready .working ∧ done.port.engine = .done := by
  unfold State.Ready State.Hears; decide

theorem witness_step_front :
    ({ base with pending := [.linkAnswer, .emgAssert] } : State).pending = .linkAnswer :: [.emgAssert] := rfl
theorem witness_step_in_reset : State.cold.pending = [] ∧ State.cold.inReset = true := by decide
theorem witness_step_idle : State.reset.pending = [] ∧ State.reset.inReset = false := by decide
theorem witness_restart_arguments : base.Ready .same ∧ ([0] : List Byte) ≠ [] := ⟨witness_ready.1, by decide⟩
theorem witness_before_reset : WellFormed (.response .beforeReset 2) = true ∧ commandFell (.response .beforeReset 2) = .beforeReset
    ∧ WellFormed (.frameError .beforeReset [1]) = true := by decide
theorem witness_in_reset : State.cold.inReset = true ∧ WellFormed (.bankTurn 0) = true
    ∧ (∀ high, Instr.bankTurn 0 ≠ .coldReset high) ∧ Instr.bankTurn 0 ≠ .resetEnd ∧ Instr.bankTurn 0 ≠ .emgAssert
    ∧ Instr.bankTurn 0 ≠ .emgRelease := ⟨by decide, by decide, by simp, by simp, by simp, by simp⟩

/-- A clock at its last second (R42). -/
def lastClock (source : TickSource) : Clock :=
  { state := .running, day := 65535, weekday := 0, minute := 1439, second := 59, source := source, divider := 0 }

/-- A trip with a remaining time. -/
def trip (remaining : Nat) : Trip := { key := badge, transfer := 57, finalFloor := 64, group := 9, remaining := remaining }

theorem witness_tick_internal : base.inReset = false ∧ base.clock.InRange ∧ base.clock.source = .internal
    ∧ 1000 ≤ ({ clock814 with divider := 1000 } : Clock).divider ∧ ({ clock814 with divider := 999 } : Clock).divider < 1000 := by
  unfold Clock.InRange; decide
theorem witness_tick_external :
    (lastClock .external).InRange ∧ (lastClock .external).source = .external ∧ (lastClock .external).state = .running
      ∧ (lastClock .external).siteSecond = 5662310399 := by unfold Clock.InRange; decide
theorem witness_tick_before_last : ¬ clock814.siteSecond = 5662310399 := by decide
theorem witness_trip_expiry : ({ base with trips := [trip 1] } : State).emg = false
    ∧ ∃ x ∈ ({ base with trips := [trip 1] } : State).trips, x.remaining = 1 := ⟨by decide, trip 1, by decide, rfl⟩
theorem witness_no_trip_expiry : ¬ ∃ x ∈ ({ base with trips := [trip 2] } : State).trips, x.remaining = 1 := by decide

/-- The part with the badge's home probe waiting, its transaction at drop 3. -/
def probing : State :=
  atBank (withEntry (withDrop tower .online (some { request := request, entry := some 6, reply := none }) none) 6
    (entry .probeHome)) 1 0 [{ bucket := 3929, entry := 6, kind := .probe }] [] []

theorem witness_emergency : probing.inReset = false ∧ probing.emg = false ∧ probing.entries[(6 : Fin 64)] = some (entry .probeHome)
    ∧ (∃ q ∈ probing.banks[(1 : Fin 4)].lookup, q.entry = 6 ∧ q.kind = .probe)
    ∧ (probing.drop 0 2).transaction = some { request := request, entry := some 6, reply := none } := by decide
theorem witness_emergency_again : ({ base with emg := true } : State).emg = true := rfl

theorem witness_discarded_kind : base.Hears .same ∧ (196 : Byte) ≠ 195 ∧ (196 : Byte) ≠ 60 := by unfold State.Hears; decide
theorem witness_discarded_sum : ∀ (code check : Byte) (args : List Byte),
    ([80, 0, 175] : List Byte) = code :: byte1 args.length :: (args ++ [check]) → args.length ≤ 255 →
      (([80, 0, 175] : List Byte).map BitVec.toNat).sum % 256 ≠ 0 := fun _ _ _ _ _ => by decide
theorem witness_unknown : (81 : Byte).toNat ∉ knownCodes := by decide
theorem witness_response : done.Hears .same ∧ done.Hears .working ∧ done.port.engine = .done
    ∧ done.port.buffer = some { code := .ok, bytes := [1, 2] } ∧ 0 < 1 ∧ base.port.engine ≠ .done := by
  unfold State.Hears; decide
theorem witness_working : commandArgs (.readWatch .same [7]) = some [7] ∧ WellFormed (.readWatch .same [7]) = true
    ∧ working.Hears (commandFell (.readWatch .same [7])) ∧ working.port.engine = .working := by unfold State.Hears; decide
theorem witness_port_bytes : WellFormed (.sweepNow .same []) = true
    ∧ encodePort (.sweepNow .same []) = some [195, 80, 0, 176]
    ∧ decodePort .same [195, 80, 0, 176] = some (.sweepNow .same []) ∧ commandArgs (.sweepNow .same []) = some [] := by decide
theorem witness_answers : 65535 < 65536 ∧ 16777215 < 16777216
    ∧ readAnswer 2 [126, 3, 2, 1, 0, 6, 20] = some { tamper := false, request := none } := by decide
theorem witness_exchange : (0 : Byte) ≠ 85 := by decide

/-! ### Store commands -/

/-- A credential at the ends of its ranges (R1, R14). -/
def greatCredential : Credential :=
  { key := { site := 1023, card := 1048575 }, state := .suspended, holder := .service, profiles := [0, 255, 7, 31],
    personal := [0, 159, 12, 88], defaultFloor := some 159, validFrom := some 0, validUntil := some 94371839,
    budget := some 255, assist := true }

theorem witness_put : Args.CredentialForm
      { credential := greatCredential, profilePad := [], floorPad := [], unreadFloor := 0, unreadFrom := [0, 0, 0, 0],
        unreadUntil := [0, 0, 0, 0], unreadBudget := 0 }
    ∧ ∀ v, Args.CredentialForm v → ([] : List Byte) ≠ Args.credential v := by
  refine ⟨⟨⟨by decide, by decide, by decide, by decide, by decide, ?_, ?_, ?_, ?_, ?_⟩, by decide, by decide, by decide,
    by decide⟩, fun v _ => by simp [Args.credential, Args.key, be]⟩ <;> simp [greatCredential]
theorem witness_get_drop : Fits Args.key Args.keyFits ⟨1023, 1048575⟩ [] :=
  ⟨by unfold Args.keyFits; decide, fun v _ => by simp [Args.key, be]⟩
theorem witness_set_state : Fits Args.setState (fun v => Args.keyFits v.1) (⟨1023, 1048575⟩, false) [] :=
  ⟨by unfold Args.keyFits; decide, fun v _ => by simp [Args.setState]⟩
theorem witness_replenish : Fits Args.replenish (fun v => Args.keyFits v.1 ∧ ∀ n, v.2 = .count n → 1 ≤ n ∧ n ≤ 255)
    (⟨0, 0⟩, .count 255) [] :=
  ⟨⟨by unfold Args.keyFits; decide, by simp⟩, fun v _ => by simp [Args.replenish, Args.key, be]⟩
theorem witness_replenish_unlimited : Args.keyFits ⟨0, 0⟩ ∧ ∀ n, Args.Budget.unlimited 9 = .count n → 1 ≤ n ∧ n ≤ 255 :=
  ⟨by unfold Args.keyFits; decide, by simp⟩
theorem witness_read_slot : Fits Args.slot (fun _ => True) (4095, 3) [] := ⟨trivial, fun v _ => by simp [Args.slot]⟩

/-- The part WORKING with one UPKEEP request at the head of bank 2. -/
def upkeepAt (s : State) (c : StoreCommand) (p : Phase) : State :=
  atBank s 2 5 [] [{ bucket := 1882, command := c, phase := p }] []

/-- The part WORKING with the badge's record in way 1 of bucket 1,882. -/
def stored (r : Record) : State := holding working 1882 1 r

/-- The part WORKING with bucket 1,882 full of other keys. -/
def full : State :=
  { working with
    store :=
      { slots := [0, 1, 2, 3].map fun i => (7528 + i, { badgeRecord .active none none none with key := ⟨0, 1882 + 4096 * i⟩ })
        occupancy := 4, edition := 65535 } }

theorem witness_serves_lookup : probing.servesLookup 1 { bucket := 3929, entry := 6, kind := .probe } := by
  unfold State.servesLookup; decide
theorem witness_serves_upkeep :
    (upkeepAt working (.get badge) .first).servesUpkeep 2 { bucket := 1882, command := .get badge, phase := .first } := by
  unfold State.servesUpkeep; decide
theorem witness_serves_lent :
    (atBank working 2 3 [] [{ bucket := 1882, command := .get badge, phase := .first }] []).servesUpkeep 2
      { bucket := 1882, command := .get badge, phase := .first } := by
  unfold State.servesUpkeep; decide
theorem witness_serves_sweep : (atBank base 2 3 [] [] [2210]).servesSweep 2 2210 := by unfold State.servesSweep; decide
theorem witness_serves_last : (atBank base 3 3 [] [] [4095]).servesSweep 3 4095 := by unfold State.servesSweep; decide
theorem witness_unused : (atBank base 2 7 [{ bucket := 2210, entry := 12, kind := .probe }] [] []).unused 2 := by
  refine ⟨by decide, fun q h => ?_, fun q h => ?_, fun b h => ?_⟩
  · exact absurd h.2.1 (by decide)
  · exact absurd h.2.1 (by simp [atBank])
  · exact absurd h.2.1 (by decide)

theorem witness_put_replace : (upkeepAt (stored (badgeRecord .active none none none)) (.put badgeCredential) .first).servesUpkeep 2
      { bucket := 1882, command := .put badgeCredential, phase := .first }
    ∧ (stored (badgeRecord .active none none none)).store.search 1882 badge = some (1, badgeRecord .active none none none) := by
  unfold State.servesUpkeep; decide
theorem witness_put_absent : working.store.search 1882 badge = none ∧ working.store.freeWay 1882 = some 0 := by decide
theorem witness_put_full : full.store.search 1882 badge = none ∧ full.store.freeWay 1882 = none
    ∧ (upkeepAt full (.put badgeCredential) .third).servesUpkeep 2
        { bucket := 1882, command := .put badgeCredential, phase := .third } := by unfold State.servesUpkeep; decide
theorem witness_drop_kept : (stored (badgeRecord .active none none none)).StoreKept := by
  unfold State.StoreKept; decide

/-- The states in which SET STATE and REPLENISH find the badge, with the lapse condition and without it. -/
theorem witness_found_states :
    (stored (badgeRecord .spent (some 0) none none)).store.search 1882 badge = some (1, badgeRecord .spent (some 0) none none)
      ∧ (stored (badgeRecord .lapsed none none (some 1000))).store.search 1882 badge
          = some (1, badgeRecord .lapsed none none (some 1000))
      ∧ (upkeepAt (stored (badgeRecord .active none none (some 1172652))) (.setState badge true) .second).servesUpkeep 2
          { bucket := 1882, command := .setState badge true, phase := .second }
      ∧ (upkeepAt (stored (badgeRecord .active none none (some 1172652))) (.replenish badge none) .second).servesUpkeep 2
          { bucket := 1882, command := .replenish badge none, phase := .second } := by
  unfold State.servesUpkeep; decide
/-- At site minute 1,172,652 the lapse condition holds for valid until 1,172,652 and not for 1,172,653. -/
theorem witness_lapse : working.clock.siteMinute = 1172652 ∧ (badgeRecord .active none none (some 1172652)).LapseHolds 1172652
    ∧ ¬ (badgeRecord .active none none (some 1172653)).LapseHolds 1172652 :=
  ⟨by decide, ⟨1172652, rfl, by decide⟩, by rintro ⟨u, hu, h⟩; cases hu; omega⟩

/-! ### Probes and decisions -/

/-- The part with a LOOKUP request of entry 6 at the head of bank 2. -/
def lookupAt (s : State) (en : Entry) (k : LookupKind) : State :=
  atBank (withEntry s 6 en) 2 0 [{ bucket := 1882, entry := 6, kind := k }] [] []

theorem witness_probe : (lookupAt tower (entry .probeAlt) .probe).servesLookup 2 { bucket := 1882, entry := 6, kind := .probe }
    ∧ (lookupAt tower (entry .probeAlt) .probe).entries[(6 : Fin 64)] = some (entry .probeAlt)
    ∧ (lookupAt tower (entry .probeAlt) .probe).store.search 1882 badge = none := by unfold State.servesLookup; decide
theorem witness_probe_home : (entry .probeHome).state = .probeHome ∧ tower.emg = false
    ∧ ({ tower with emg := true } : State).emg = true := by decide

/-- Profile 7 of 3.5, and the tower with it. -/
def open7 : State :=
  { tower with profiles := tower.profiles.set 7 { floors := [61, 62, 63, 64, 65, 66], windows := [⟨31, 420, 1200⟩] } }

theorem witness_decision_grant : open7.decision (entry .probeAlt) (badgeRecord .active none none none)
    = .grant { group := 9, target := 57, finalFloor := 64, tripNeeded := true } false := by decide
theorem witness_decision_continues :
    ({ open7 with trips := [{ trip 200 with transfer := 0 }] } : State).decision { entry .probeAlt with kind := .arrival, requested := none }
      (badgeRecord .active none none none) = .grant { group := 9, target := 57, finalFloor := 64, tripNeeded := true } true := by
  decide
theorem witness_decision_lapse : open7.decision (entry .probeAlt) (badgeRecord .active none none (some 1172652)) = .lapse := by decide
theorem witness_decision_closed : ({ open7 with settings := { open7.settings with closures := [64] } } : State).decision
    (entry .probeAlt) (badgeRecord .active none none none) = .answer .denyClosed := by decide
theorem witness_decision_floor : tower.decision (entry .probeAlt) (badgeRecord .active none none none) = .answer .denyFloor := by
  decide
/-- 5.11: 11 seconds after the last use, and R90's boundary: 20 seconds after it. -/
theorem witness_decision_passback : ({ open7 with clock := { clock814 with second := 49 } } : State).decision (entry .probeAlt)
    (badgeRecord .active none (some use1) none) = .answer .denyPassback := by decide
theorem witness_decision_passback_end : ({ open7 with clock := { clock814 with second := 50 } } : State).decision (entry .probeAlt)
    (badgeRecord .active none (some use1) none)
      = .grant { group := 9, target := 57, finalFloor := 64, tripNeeded := true } false := by decide
theorem witness_decision_no_route : ({ open7 with live := coldMap } : State).decision (entry .probeAlt)
    (badgeRecord .active none none none) = .answer .denyNoRoute := by decide
theorem witness_decision_silent : ({ open7 with dispatch := { open7.dispatch with state := .silent } } : State).decision
    (entry .probeAlt) (badgeRecord .active none none none) = .answer .holdNoAnswer := by decide
theorem witness_deciding_turn :
    let s := lookupAt (holding open7 1882 1 (badgeRecord .active (some 1) none none)) (entry .probeAlt) .probe
    s.servesLookup 2 { bucket := 1882, entry := 6, kind := .probe } ∧ s.entries[(6 : Fin 64)] = some (entry .probeAlt)
      ∧ s.store.search 1882 badge = some (1, badgeRecord .active (some 1) none none)
      ∧ s.decision (entry .probeAlt) (badgeRecord .active (some 1) none none)
          = .grant { group := 9, target := 57, finalFloor := 64, tripNeeded := true } false := by
  unfold State.servesLookup; decide

/-! ### Routes, windows, reversals, passes -/

def allIn : Vector GroupState 12 := Vector.replicate 12 .inService

/-- The map with standby group 1 in zone 0. -/
def mapStandby : FloorMap :=
  { map46 with
    served := map46.served.set 1 [0, 12]
    zones := map46.zones.set 12 (some 0)
    zoneTable := map46.zoneTable.set 0 { localGroup := some 0, standby := some 1 } }

theorem witness_route_same_zone : mapStandby.zoneOf 0 = some 0 ∧ mapStandby.zoneOf 12 = some 0
    ∧ mapStandby.zoneTable[(0 : Fin 8)].localGroup = some 0 ∧ mapStandby.serves 0 0 = true ∧ mapStandby.serves 0 12 = true
    ∧ allIn[(0 : Fin 12)] = .inService := by decide
theorem witness_route_standby : (allIn.set 0 .outOfService)[(0 : Fin 12)] = .outOfService
    ∧ mapStandby.zoneTable[(0 : Fin 8)].standby = some 1 ∧ (allIn.set 0 .outOfService)[(1 : Fin 12)] = .inService
    ∧ mapStandby.serves 1 0 = true ∧ mapStandby.serves 1 12 = true := by decide
theorem witness_route_no_standby : (allIn.set 5 .outOfService)[(5 : Fin 12)] = .outOfService
    ∧ ∀ x, map46.zoneTable[(3 : Fin 8)].standby = some x → False := by
  refine ⟨by decide, fun x h => ?_⟩
  exact absurd (show (none : Option (Fin 12)) = some x from h) (by simp)
theorem witness_route_cross : map46.zoneOf 0 = some 0 ∧ map46.zoneOf 64 = some 3
    ∧ map46.transfer 0 3 = some { group := 9, floor := 57 } ∧ map46.serves 9 0 = true ∧ map46.serves 9 57 = true
    ∧ map46.transfer 3 0 = none := by decide
theorem witness_route_none : map46.zoneOf 159 = none ∧ map46.zoneOf 160 = none := by decide
theorem witness_weekday : base.clock.weekday ≤ 6 := by decide

theorem witness_reversal :
    let en : Entry := { offeredEntry true with state := .reversing }
    let s := lookupAt (holding open7 1882 1 (badgeRecord .active none (some use1) none)) en .reversal
    s.servesLookup 2 { bucket := 1882, entry := 6, kind := .reversal } ∧ s.entries[(6 : Fin 64)] = some en
      ∧ en.found = some found ∧ en.grant = some grant
      ∧ s.store.slot found.bucket found.way = some (badgeRecord .active none (some use1) none)
      ∧ (badgeRecord .active none (some use1) none).edition = found.edition := by unfold State.servesLookup; decide
theorem witness_reversal_gone : ∀ r, tower.store.slot found.bucket found.way = some r → ¬ (r.key = badge ∧ r.edition = 408) := by
  intro r h; exact absurd (show (none : Option Record) = some r from h) (by simp)
theorem witness_sweep_turn : (atBank (stored (badgeRecord .active none none none)) 2 3 [] [] [1882]).StoreKept
    ∧ (atBank (stored (badgeRecord .active none none none)) 2 3 [] [] [1882]).servesSweep 2 1882 := by
  unfold State.StoreKept State.servesSweep; decide
theorem witness_sweep_now : Fits (fun _ : Unit => []) (fun _ => True) () [0] := ⟨trivial, fun _ _ => by simp⟩
theorem witness_sweep_timer : base.sweeper.timer = some 900000 ∧ ({ base.sweeper with timer := none } : Sweeper).timer = none
    ∧ ({ base.sweeper with timer := some 0 } : Sweeper).timer = some 0 := by
  decide

/-! ### Commands that end at once: a value at the ends of its ranges, and a frame that no value writes -/

theorem witness_set_clock : Fits Args.clock (fun v => v.day ≤ 65535 ∧ v.weekday ≤ 6 ∧ v.minute ≤ 1439 ∧ v.second ≤ 59)
    ⟨65535, 6, 1439, 59⟩ [] := ⟨by decide, fun v _ => by simp [Args.clock]⟩
theorem witness_set_tick_source : Fits (fun src : TickSource => [byte1 src.code]) (fun _ => True) .external [] :=
  ⟨trivial, fun v _ => by simp⟩
theorem witness_put_holidays : Fits Args.numbers (fun l => l.length ≤ 64 ∧ (∀ d ∈ l, d ≤ 65535) ∧ l.dedup.length ≤ 32)
    (List.replicate 64 65535) [] := ⟨by decide +kernel, fun v _ => by simp [Args.numbers]⟩
theorem witness_put_profile : Fits Args.profile
    (fun v => v.floors.length ≤ 160 ∧ (∀ f ∈ v.floors, f ≤ 159) ∧ v.windows.length ≤ 6
      ∧ ∀ w ∈ v.windows, w.start ≤ 1439 ∧ 1 ≤ w.stop ∧ w.stop ≤ 2880 ∧ w.start < w.stop)
    ⟨255, [159, 0, 159], List.replicate 6 ⟨255, 1439, 2880⟩⟩ [] :=
  ⟨by decide +kernel, fun v _ => by simp [Args.profile]⟩
theorem witness_get_profile : Fits (fun n : Fin 256 => [byte1 n]) (fun _ => True) 255 [] := ⟨trivial, fun v _ => by simp⟩
theorem witness_set_floor : Fits Args.floorEdit
    (fun v =>
      match v with
      | .count n => n ≤ 160
      | .range first last _ => first ≤ last ∧ last ≤ 159)
    (.range 159 159 none) [] :=
  ⟨by decide, fun v _ => by cases v <;> simp [Args.floorEdit]⟩
theorem witness_set_floor_count : (160 : Nat) ≤ 160 := le_refl _
theorem witness_set_group : Fits (fun v : Fin 12 × List Nat => byte1 v.1 :: Args.floors v.2)
    (fun v => v.2.length ≤ 160 ∧ ∀ f ∈ v.2, f ≤ 159) (11, [159, 159]) [] := ⟨by decide, fun v _ => by simp⟩
theorem witness_set_zone : Fits
    (fun v : Fin 8 × Option (Fin 12) × Option (Fin 12) => [byte1 v.1, Args.optional v.2.1, Args.optional v.2.2])
    (fun v => v.2.2 ≠ none → v.2.1 ≠ none ∧ v.2.2 ≠ v.2.1) (7, some 10, some 11) [] := ⟨by decide, fun v _ => by simp⟩
theorem witness_set_transfer : Fits Args.transfer
    (fun v => v.origin ≠ v.destination ∧ ∀ x, v.entry = some x → x.floor ≤ 159) ⟨0, 7, some ⟨11, 159⟩, 0⟩ [] :=
  ⟨⟨by decide, by simp⟩, fun v _ => by simp [Args.transfer]⟩
theorem witness_set_transfer_absent : (0 : Fin 8) ≠ 7 ∧ ∀ x : Transfer, none = some x → x.floor ≤ 159 := ⟨by decide, by simp⟩
theorem witness_read_map : Fits Args.readMap (fun _ => True) (true, .lobby 15) [] := ⟨trivial, fun v _ => by simp [Args.readMap]⟩
theorem witness_set_lobby : Fits Args.lobby (fun v => v.origin ≤ 159 ∧ v.window ≤ 65535) ⟨15, 159, 65535, .opened⟩ [] :=
  ⟨by decide, fun v _ => by simp [Args.lobby]⟩
theorem witness_set_sites : Fits Args.numbers (fun l => l.length ≤ 4 ∧ (∀ c ∈ l, c ≤ 1023) ∧ l.Nodup) [0, 1023, 12, 13] [] :=
  ⟨by decide, fun v _ => by simp [Args.numbers]⟩
theorem witness_set_mode : Fits Args.mode (fun _ => True) (.restrict, 15) [] := ⟨trivial, fun v _ => by simp [Args.mode]⟩
theorem witness_set_closures : Fits Args.floors (fun l => l.length ≤ 160 ∧ ∀ f ∈ l, f ≤ 159) [159, 0, 159] [] :=
  ⟨by decide, fun v _ => by simp [Args.floors]⟩
theorem witness_set_timers : Fits Args.timers
    (fun v => v.offerTimeout ≤ 65535 ∧ v.tripLifetime ≤ 65535 ∧ v.retireGrace ≤ 65535 ∧ v.sweepInterval ≤ 65535
      ∧ v.nearFull ≤ 65535) ⟨65535, 0, 10081, 1440, 16385⟩ [] := ⟨by decide, fun v _ => by simp [Args.timers, be]⟩
theorem witness_set_timers_in_range : (200 : Nat) ≤ 65535 ∧ (1800 : Nat) ≤ 65535 ∧ (10080 : Nat) ≤ 65535 := by decide
theorem witness_set_drop : Fits Args.drop (fun _ => True) ⟨3, 27, true, 15⟩ [] := ⟨trivial, fun v _ => by simp [Args.drop]⟩
theorem witness_bar_drop : Fits Args.linkDrop (fun _ => True) (3, 27) [] := ⟨trivial, fun v _ => by simp [Args.linkDrop]⟩
theorem witness_set_link : Fits Args.link (fun v => v.2.divisor ≤ 65535 ∧ v.2.limit ≤ 255)
    (3, { enabled := true, granularity := .fine, divisor := 65535, limit := 255 }) [] :=
  ⟨by decide, fun v _ => by simp [Args.link]⟩
theorem witness_watch : Fits Args.selection (fun _ => True) (.drop 3 27) [] :=
  ⟨trivial, fun v _ => by cases v <;> simp [Args.selection]⟩
theorem witness_set_pattern : Fits Args.pattern
    (fun v => 2 ≤ v.2.toList.count .lookup ∧ 1 ≤ v.2.toList.count .upkeep ∧ 1 ≤ v.2.toList.count .sweep)
    (3, #v[.lookup, .lookup, .upkeep, .sweep, .idle, .idle, .idle, .idle]) [] :=
  ⟨by decide, fun v _ => by simp [Args.pattern]⟩
theorem witness_read_pattern : Fits (fun n : Fin 4 => [byte1 n]) (fun _ => True) 3 [] := ⟨trivial, fun v _ => by simp⟩
theorem witness_set_attention : Fits (fun v : Byte × AttnMode => [v.1, byte1 v.2.code]) (fun _ => True) (255, .pulse) [] :=
  ⟨trivial, fun v _ => by simp⟩
theorem witness_clear_attention : Fits (fun set : Byte => [set]) (fun _ => True) 255 [] := ⟨trivial, fun v _ => by simp⟩

/-! ### Request links -/

theorem witness_recompute_room : base.dispatch.queue.countP TxFrame.isNotice + 16 ≤ 32 := by decide
theorem witness_recompute_owed :
    32 < (List.replicate 32 (TxFrame.notice 0 .served .shut)).countP TxFrame.isNotice + ([0] : List (Fin 16)).length := by decide
theorem witness_post : (probing.drop 0 2).transaction = some { request := request, entry := some 6, reply := none }
    ∧ (∀ t, (base.drop 0 2).transaction = some t → t.entry ≠ some 6) := by
  refine ⟨by decide, fun t h => ?_⟩
  exact absurd (show (none : Option Transaction) = some t from h) (by simp)

/-- Link 0 enabled with drop 3 the only enabled drop. -/
def one : State := withDrop base .online none none

theorem witness_poll_idle : base.links[(0 : Fin 4)].settings.enabled = false ∧ (polling one .nothing).links[(0 : Fin 4)].poll ≠ none
    ∧ ∀ d : Fin 28, ¬ base.links[(0 : Fin 4)].drops[d].state ≠ .disabled := by decide +kernel
theorem witness_poll_turn : one.links[(0 : Fin 4)].settings.enabled = true ∧ one.links[(0 : Fin 4)].poll = none
    ∧ one.links[(0 : Fin 4)].drops[(2 : Fin 28)].state ≠ .disabled ∧ one.links[(0 : Fin 4)].walk < (2 : Fin 28).val + 1
    ∧ ∀ d' : Fin 28, one.links[(0 : Fin 4)].drops[d'].state ≠ .disabled → one.links[(0 : Fin 4)].walk < d'.val + 1 → 2 ≤ d' := by
  decide +kernel
/-- The walk stands at the last enabled address and wraps. -/
theorem witness_poll_wraps :
    ∀ d' : Fin 28, one.links[(0 : Fin 4)].drops[d'].state ≠ .disabled → d'.val + 1 ≤ 3 ∧ 2 ≤ d' := by decide +kernel
theorem witness_poll_reply :
    ((withDrop base .online (some { request := request, entry := none, reply := some (.plain .holdBusy) }) none).drop 0 2).transaction
      = some { request := request, entry := none, reply := some (.plain .holdBusy) } := by decide
theorem witness_poll_side :
    ((withDrop base .seeking none
      (some { code := .busy, number := 42, kind := .destination, key := badge, requested := some 64 })).drop 0 2).side
      = some { code := .busy, number := 42, kind := .destination, key := badge, requested := some 64 } := by decide
theorem witness_outcomes : (polling one .nothing).inReset = false
    ∧ (polling one .nothing).links[(0 : Fin 4)].poll
        = some { drop := 2, item := .nothing, settings := { enabled := true, granularity := .power, divisor := 0, limit := 4 } }
    ∧ readAnswer 2 [126, 3, 2, 1, 0, 6, 20] = some { tamper := false, request := none }
    ∧ readAnswer 2 [126, 3, 2, 1, 0, 6, 21] = none := by decide

/-- Supervision: a drop after the last poll of its block that keeps its state, falls or returns (R114), and a lost one. -/
theorem witness_supervision_block :
    judged .online 8 = .online ∧ judged .online 9 = .degraded ∧ judged .degraded 2 = .online ∧ judged .degraded 3 = .degraded := by
  decide
theorem witness_supervision_counted :
    ({ coldDrop with state := .online, blockPolls := 63, blockFailed := 9, good := 2 } : Drop).Counted
      { coldDrop with state := .degraded, good := 2 } 0 := by unfold Drop.Counted; decide
theorem witness_supervision_online :
    ({ coldDrop with state := .seeking, good := 1 } : Drop).state = .seeking
      ∧ 1 ≤ ({ coldDrop with state := .seeking, good := 1 } : Drop).good := by decide
theorem witness_supervision_lost : 2 ≤ ({ coldDrop with state := .degraded, failed := 2 } : Drop).failed := by decide

/-- The part with drop 3 in a state and a mode. -/
def modeDrop (st : DropState) (m : AnswerMode) (tr : Option Transaction) : Drop := { coldDrop with state := st, mode := m, transaction := tr }

theorem witness_request_turned :
    ¬ ((modeDrop .seeking .serve none).state = .online ∨ (modeDrop .seeking .serve none).state = .degraded)
      ∧ ((modeDrop .degraded .barred none).state = .degraded ∧ (modeDrop .degraded .barred none).mode = .barred)
      ∧ (modeDrop .online .serve (some { request := request, entry := none, reply := none })).transaction ≠ none := by decide
theorem witness_request_early : State.reset.clock.state ≠ .running ∧ tower.dispatch.state = .active
    ∧ request.key.site ∈ tower.settings.sites ∧ 160 ≥ tower.live.count ∧ tower.live.zoneOf 64 ≠ none
    ∧ request.requested ≠ some tower.lobbies[(0 : Fin 16)].origin := by decide
theorem witness_request_entry : tower.entries[(0 : Fin 64)] = none ∧ tower.emg = false ∧ tower.clock.state = .running := by decide

/-! ### The dispatch link -/

theorem offered_only (sent : Bool) (e : Fin 64) (en : Entry)
    (h : (withEntry base 6 (offeredEntry sent)).entries[e] = some en) : e = 6 ∧ en = offeredEntry sent := by
  by_cases he : e = 6
  · subst he; exact ⟨rfl, (Option.some.inj (h.symm.trans (by cases sent <;> decide)))⟩
  · have hv : (6 : Nat) ≠ e.val := fun hv => he (Fin.ext hv.symm)
    exfalso
    have h0 : base.entries = Vector.replicate 64 none := rfl
    simp [withEntry, State.setEntry, Vector.getElem_set_ne, hv, h0] at h

theorem witness_tags : (withEntry base 6 (offeredEntry true)).TagsKept := by
  intro e e' en en' t d x d' x' h h' _ _
  rw [(offered_only true e en h).1, (offered_only true e' en' h').1]
theorem witness_outstanding : (withEntry base 6 (offeredEntry true)).Outstanding 17 6 (offeredEntry true)
    ∧ (offeredEntry true).grant = some grant ∧ (offeredEntry true).found = some found :=
  ⟨⟨by decide, 1500, rfl⟩, rfl, rfl⟩
theorem witness_stale : ∀ e en, ¬ (withEntry base 6 (offeredEntry false)).Outstanding 17 e en := by
  rintro e en ⟨h, d, hd⟩
  rw [(offered_only false e en h).2] at hd
  exact absurd (show EntryState.offered 17 1500 false = .offered 17 d true from hd) (by simp)
theorem witness_expiry : (withEntry base 6 (offeredEntry true)).entries[(6 : Fin 64)] = some (offeredEntry true)
    ∧ (offeredEntry true).state = .offered 17 1500 true ∧ (offeredEntry false).state = .offered 17 1500 false
    ∧ base.reference < 1500 ∧ 1500 ≤ ({ base with reference := 1500 } : State).reference := by decide
/-- The second timeout does not make the link SILENT, the third does (R135). -/
theorem witness_expiry_falls : ¬ 2 ≤ ({ base.dispatch with timeouts := 1 } : DispatchLink).timeouts
    ∧ 2 ≤ ({ base.dispatch with timeouts := 2 } : DispatchLink).timeouts ∧ base.dispatch.state = .active := by decide
theorem witness_bad_frame : readDispatch [126, 35, 0, 35, 71] = none ∧ base.dispatch.receiver = .outside
    ∧ ({ base.dispatch with receiver := .assembling } : DispatchLink).receiver = .assembling := by decide
theorem witness_transmit : State.reset.dispatch.sending = none ∧ State.reset.dispatch.queue = .linkCheck :: []
    ∧ base.dispatch.queue = [] ∧ State.reset.dispatch.checkTimer = some 1000 ∧ base.dispatch.checkTimer = none
    ∧ ({ base.dispatch with checkTimer := some 0 } : DispatchLink).checkTimer = some 0 := by decide
theorem witness_sent : (withEntry base 6 (offeredEntry false)).entries[(6 : Fin 64)] = some (offeredEntry false)
    ∧ (∀ e o, TxFrame.linkCheck ≠ .offer (some e) o) ∧ base.entries[(6 : Fin 64)] = none :=
  ⟨by decide, by simp, by decide⟩

/-! ### Invariants: a state other than the reset state that meets each, and whose step gives a next state -/

theorem base_banks (b : Bank) (h : b ∈ base.banks.toList) : b = coldBank := by
  have h0 : base.banks = Vector.replicate 4 coldBank := rfl
  rw [h0] at h
  simpa using h

theorem base_entries (e : Fin 64) : base.entries[e] = none := by
  have h0 : base.entries = Vector.replicate 64 none := rfl
  rw [h0]; simp

/-- The part with the badge's record alone in the store, and the engine IDLE. -/
def oneRecord : State := holding base 1882 1 (badgeRecord .active (some 1) none none)

theorem oneRecord_slot (b : Bucket) (w : Way) (r : Record) (h : oneRecord.store.slot b w = some r) :
    (b, w) = (1882, 1) ∧ r = badgeRecord .active (some 1) none none := by
  have hm := Table.mem_of_get h
  have h0 : oneRecord.store.slots = [(slotNumber 1882 1, badgeRecord .active (some 1) none none)] := by decide
  rw [h0, List.mem_singleton, Prod.mk.injEq] at hm
  exact ⟨slotNumber_inj hm.1, hm.2⟩

theorem witness_clock_kept : ({ base with clock := lastClock .internal } : State).ClockKept
    ∧ (next? (step { base with clock := lastClock .internal })).isSome = true := by
  unfold State.ClockKept Clock.InRange; decide
theorem witness_store_kept : oneRecord.StoreKept ∧ (next? (step oneRecord)).isSome = true := by
  unfold State.StoreKept; decide
theorem witness_records_kept : oneRecord.RecordsKept := by
  refine ⟨fun x hx => ?_, fun b hb q hq => ?_⟩
  · have h0 : oneRecord.store.slots = [(slotNumber 1882 1, badgeRecord .active (some 1) none none)] := by decide
    rw [h0, List.mem_singleton] at hx
    subst hx
    exact ⟨by decide, by decide⟩
  · rw [base_banks b hb] at hq
    exact absurd hq (by simp [coldBank])
theorem witness_keys_kept : oneRecord.KeysKept := by
  refine ⟨fun b w r h => ?_, fun b w r b' w' r' h h' _ => ?_, by decide, fun q hq => ?_, by decide⟩
  · obtain ⟨hb, hr⟩ := oneRecord_slot b w r h
    simp only [Prod.mk.injEq] at hb
    rw [hb.1, hr]
    decide
  · rw [(oneRecord_slot b w r h).1, (oneRecord_slot b' w' r' h').1]
  · have h0 : oneRecord.upkeepWaiting = [] := by decide
    rw [h0] at hq
    exact absurd hq (by simp)
theorem witness_trips_kept : ({ base with trips := [trip 1800] } : State).TripsKept := by
  refine ⟨by decide, by decide, by decide, by decide, by decide, fun e en g h => ?_⟩
  have h' : base.entries[e] = some en := h
  rw [base_entries e] at h'
  exact absurd h' (by simp)
theorem witness_maps_kept : tower.MapsKept := by
  refine ⟨by decide +kernel, fun b hb => ?_⟩
  rw [base_banks b hb]
  exact ⟨by decide, by simp [coldBank]⟩
theorem witness_service_kept : base.ServiceKept := by
  unfold State.ServiceKept; decide +kernel
theorem witness_waiting_kept : probing.WaitingKept := by
  refine ⟨by decide +kernel, fun e en h h1 _ => ?_⟩
  by_cases he : e = 6
  · subst he
    have : en = entry .probeHome := Option.some.inj (h.symm.trans (by decide))
    exact absurd (by rw [this]; rfl) h1
  · have hv : (6 : Nat) ≠ e.val := fun hv => he (Fin.ext hv.symm)
    exfalso
    have h0 : probing.entries = (Vector.replicate 64 none).set 6 (some (entry .probeHome)) := rfl
    simp [h0, Vector.getElem_set_ne, hv] at h
theorem witness_queue_kept : ({ base with
    dispatch := { base.dispatch with queue := .linkCheck :: List.replicate 32 (.notice 0 .served .shut) } } : State).QueueKept := by
  unfold State.QueueKept; decide
theorem witness_steps : [tower, probing, oneRecord, { base with trips := [trip 1800] }, withEntry base 6 (offeredEntry true)].all
    (fun s => (next? (step s)).isSome) = true := by decide +kernel

end Sys2Proof.Tests
end

/-! ## The turn that serves an UPKEEP request (R30 to R32) -/

namespace Sys2Proof.Machine

/-- The arbiter takes the UPKEEP request at the head, at an UPKEEP position or at a lent SWEEP position (R31, R32). -/
theorem Bank.turn_upkeep {b : Bank} {q : UpkeepRequest} {rest : List UpkeepRequest} {passing : Bool}
    (hq : b.upkeep = q :: rest) (hdue : b.due = .upkeep ∨ (b.due = .sweep ∧ b.sweep = [] ∧ passing = false)) :
    b.turn passing
      = ({ b with
            pattern := b.current, staged := if b.position = 0 then none else b.staged, position := b.position + 1,
            upkeep := rest },
          .upkeep q) := by
  rcases hdue with hdue | ⟨hdue, hsweep, hpassing⟩
  · simp [Bank.turn_eq, hdue, hq]
  · simp [Bank.turn_eq, hdue, hq, hsweep, hpassing]

theorem exec_bankTurn (n : Fin 4) (s : State) : exec (.bankTurn n) s = execBankTurn n s := rfl

/-- A bank turn that serves an UPKEEP request carries out its phase in the state after the arbiter's choice (R4, R30). -/
theorem exec_bankTurn_upkeep {s : State} {n : Fin 4} {q : UpkeepRequest} (h : s.servesUpkeep n q) :
    exec (.bankTurn n) s = .next ((s.turned n .upkeep).upkeepTurn q) := by
  obtain ⟨hreset, hhead, hdue⟩ := h
  obtain ⟨rest, hq⟩ := List.head?_eq_some_iff.1 hhead
  have hturn := Bank.turn_upkeep (passing := s.sweeper.state == .passing) hq
    (hdue.imp_right fun ⟨hd, hs, hidle⟩ => ⟨hd, hs, by rw [hidle]; rfl⟩)
  simp only [exec_bankTurn, execBankTurn, hreset, Bool.false_eq_true, if_false, hturn, State.serve, State.turned, hq,
    List.tail_cons, reduceCtorEq, if_true]

/-! ## The phases of PUT CREDENTIAL (R15 to R18) -/

theorem State.nextPhase_eq (s : State) (c : StoreCommand) (b : Bucket) (p : Phase) :
    s.nextPhase c b p = s.phaseQueued b c p := rfl

/-- The search of phases 1 and 2 replaces where it finds the key (R15, R16). -/
theorem State.putPhase_found {s : State} {c : Credential} {b : Bucket} {p : Phase} {w : Way} {r : Record}
    (hp : p ≠ .third) (h : s.store.search b c.key = some (w, r)) : s.putPhase c b p = s.putReplace c b w r := by
  cases p with
  | first => simp only [State.putPhase, h]
  | second => simp only [State.putPhase, h]
  | third => exact absurd rfl hp

theorem State.putPhase_first_absent {s : State} {c : Credential} {b : Bucket} (h : s.store.search b c.key = none) :
    s.putPhase c b .first = s.phaseQueued c.key.home (.put c) .second := by
  simp only [State.putPhase, h, State.nextPhase_eq]

/-- Phase 2 without the key in the home bucket places in its lowest FREE way (R16). -/
theorem State.putPhase_second_free {s : State} {c : Credential} {b : Bucket} {w : Way}
    (h : s.store.search b c.key = none) (hw : s.store.freeWay b = some w) :
    s.putPhase c b .second = s.putPlace c b w := by
  simp only [State.putPhase, h, hw]

theorem State.putPhase_second_full {s : State} {c : Credential} {b : Bucket}
    (h : s.store.search b c.key = none) (hw : s.store.freeWay b = none) :
    s.putPhase c b .second = s.phaseQueued c.key.alternate (.put c) .third := by
  simp only [State.putPhase, h, hw, State.nextPhase_eq]

/-- Phase 3 places in the lowest FREE way of the alternate bucket, without a search (R17). -/
theorem State.putPhase_third_free {s : State} {c : Credential} {b : Bucket} {w : Way} (hw : s.store.freeWay b = some w) :
    s.putPhase c b .third = s.putPlace c b w := by
  simp only [State.putPhase, hw]

theorem State.putPhase_third_full {s : State} {c : Credential} {b : Bucket} (hw : s.store.freeWay b = none) :
    s.putPhase c b .third = s.ended .tableFull [] := by
  simp only [State.putPhase, hw, State.finishPlain_eq]

/-- The near-full check touches only the pending flag of NEAR_FULL (R10). -/
theorem State.checkNearFull_eq (s : State) :
    s.checkNearFull
      = { s with attention := { s.attention with
            pending :=
              if s.settings.timers.nearFull ≠ 0 ∧ s.settings.timers.nearFull ≤ s.store.occupancy then
                s.attention.pending ||| 32#8
              else s.attention.pending } } := by
  unfold State.checkNearFull
  split
  · simp [State.raise, Attention.raise]
  · rfl

/-- A placement writes the one FREE slot, counts it, checks the near-full mark and ends OK_NEW (R9, R10, R16, R18). -/
theorem State.putPlace_spec (u : State) (c : Credential) (b : Bucket) (w : Way) :
    let edition := (u.store.edition + 1) % 65536
    let r := c.stored u.now edition none
    u.PlacesAndEnds b w r edition (writtenBytes b w edition r.state) (u.putPlace c b w) := by
  intro edition r
  have hr : r.edition = edition := (c.stored_storedAs _ _ _).edition
  have hform : writtenForm b w r = writtenBytes b w edition r.state := by rw [writtenForm_eq, hr]
  have hput : u.putPlace c b w
      = ({ u with store := u.store.takeEdition.place b w r }.checkNearFull).ended .okNew
          (writtenBytes b w edition r.state) := by
    rw [← hform, ← State.finish_eq]; rfl
  rw [hput, State.checkNearFull_eq]
  refine ⟨Store.slot_place _ b w r, Store.sameBut_place u.store.takeEdition b w r, rfl, rfl, ?_, rfl⟩
  show (if u.settings.timers.nearFull ≠ 0 ∧ u.settings.timers.nearFull ≤ u.store.occupancy + 1 then
      u.attention.pending ||| 32#8 else u.attention.pending) ||| 64#8 = _
  split_ifs
  · exact BitVec.or_assoc ..
  · rfl

/-- Settles O16: the turn runs `putPhase` on the state after the arbiter's choice, and each branch of the phase is a
replacement, a placement, a next phase or TABLE_FULL. -/
theorem putPhasesReplaceOrPlace : Obligations.PutPhasesReplaceOrPlace := by
  intro s n c b p hserves u edition replaced placed
  have hturn : exec (.bankTurn n) s = .next (u.putPhase c b p) := exec_bankTurn_upkeep hserves
  have hreplaced : ∀ {w old}, u.putPhase c b p = u.putReplace c b w old → replaced w old := fun h =>
    ⟨_, _, hturn.trans (congrArg _ h), c.stored_storedAs _ _ _, u.putReplace_spec c b _ _⟩
  have hplaced : ∀ {w}, u.putPhase c b p = u.putPlace c b w → placed w := fun h =>
    ⟨_, _, hturn.trans (congrArg _ h), c.stored_storedAs _ _ _, u.putPlace_spec c b _⟩
  cases p with
  | first =>
    exact ⟨fun _ _ hkey => hreplaced (State.putPhase_found (by decide) hkey),
      fun hkey => hturn.trans (congrArg _ (State.putPhase_first_absent hkey))⟩
  | second =>
    exact ⟨fun _ _ hkey => hreplaced (State.putPhase_found (by decide) hkey),
      fun _ hkey hfree => hplaced (State.putPhase_second_free hkey hfree),
      fun hkey hfree => hturn.trans (congrArg _ (State.putPhase_second_full hkey hfree))⟩
  | third =>
    exact ⟨fun _ hfree => hplaced (State.putPhase_third_free hfree),
      fun hfree => hturn.trans (congrArg _ (State.putPhase_third_full hfree))⟩

end Sys2Proof.Machine

/-! ## The other turns of a bank (R30 to R32) -/

namespace Sys2Proof.Machine

/-- The arbiter takes the oldest LOOKUP request at a LOOKUP position (R31). -/
theorem Bank.turn_lookup {b : Bank} {q : LookupRequest} {rest : List LookupRequest} (passing : Bool)
    (hq : b.lookup = q :: rest) (hdue : b.due = .lookup) :
    b.turn passing
      = ({ b with
            pattern := b.current, staged := if b.position = 0 then none else b.staged, position := b.position + 1,
            lookup := rest },
          .lookup q) := by
  simp [Bank.turn_eq, hdue, hq]

/-- The arbiter takes the SWEEP request at a SWEEP position (R31). -/
theorem Bank.turn_sweep {b : Bank} {q : Bucket} {rest : List Bucket} (passing : Bool)
    (hq : b.sweep = q :: rest) (hdue : b.due = .sweep) :
    b.turn passing
      = ({ b with
            pattern := b.current, staged := if b.position = 0 then none else b.staged, position := b.position + 1,
            sweep := rest },
          .sweep q) := by
  simp [Bank.turn_eq, hdue, hq]

/-- The arbiter takes nothing where no request of the position's class waits and a SWEEP position is not lent (R31, R32). -/
theorem Bank.turn_unused {b : Bank} {passing : Bool} (hlookup : b.due = .lookup → b.lookup = [])
    (hupkeep : b.due = .upkeep → b.upkeep = [])
    (hsweep : b.due = .sweep → b.sweep = [] ∧ (passing = false → b.upkeep = [])) :
    b.turn passing
      = ({ b with
            pattern := b.current, staged := if b.position = 0 then none else b.staged, position := b.position + 1 },
          .nothing) := by
  cases hdue : b.due with
  | idle => simp [Bank.turn_eq, hdue]
  | lookup => simp [Bank.turn_eq, hdue, hlookup hdue]
  | upkeep => simp [Bank.turn_eq, hdue, hupkeep hdue]
  | sweep =>
    obtain ⟨hempty, hlent⟩ := hsweep hdue
    cases passing with
    | true => simp [Bank.turn_eq, hdue, hempty]
    | false => simp [Bank.turn_eq, hdue, hempty, hlent rfl]

/-- Outside reset a bank turn serves what its arbiter takes, in the state with the bank after the turn (R30). -/
theorem exec_bankTurn_of_turn {s : State} {n : Fin 4} {b : Bank} {x : Served} (hreset : s.inReset = false)
    (h : s.banks[n].turn (s.sweeper.state == .passing) = (b, x)) :
    exec (.bankTurn n) s = .next ({ s with banks := s.banks.set n b }.serve x) := by
  simp only [exec_bankTurn, execBankTurn, hreset, Bool.false_eq_true, if_false, h]

theorem exec_bankTurn_lookup {s : State} {n : Fin 4} {q : LookupRequest} (h : s.servesLookup n q) :
    exec (.bankTurn n) s = .next ((s.turned n .lookup).lookupTurn q) := by
  obtain ⟨hreset, hdue, hhead⟩ := h
  obtain ⟨rest, hq⟩ := List.head?_eq_some_iff.1 hhead
  rw [exec_bankTurn_of_turn hreset (Bank.turn_lookup _ hq hdue)]
  simp only [State.serve, State.turned, hq, List.tail_cons, reduceCtorEq, if_true, if_false]

theorem exec_bankTurn_sweep {s : State} {n : Fin 4} {b : Bucket} (h : s.servesSweep n b) :
    exec (.bankTurn n) s = .next ((s.turned n .sweep).sweepTurn b) := by
  obtain ⟨hreset, hdue, hhead⟩ := h
  obtain ⟨rest, hq⟩ := List.head?_eq_some_iff.1 hhead
  rw [exec_bankTurn_of_turn hreset (Bank.turn_sweep _ hq hdue)]
  simp only [State.serve, State.turned, hq, List.tail_cons, reduceCtorEq, if_true, if_false]

/-- What a turn that serves nothing says of the queues, each by the class at the position (R31, R32). -/
theorem State.unused_queues {s : State} {n : Fin 4} (h : s.unused n) :
    (s.banks[n].due = .lookup → s.banks[n].lookup = [])
      ∧ (s.banks[n].due = .upkeep → s.banks[n].upkeep = [])
      ∧ (s.banks[n].due = .sweep →
          s.banks[n].sweep = [] ∧ (s.sweeper.state = .idle → s.banks[n].upkeep = [])) := by
  obtain ⟨hreset, hlookup, hupkeep, hsweep⟩ := h
  have hswept (hdue : s.banks[n].due = .sweep) : s.banks[n].sweep = [] :=
    List.head?_eq_none_iff.1 (Option.eq_none_iff_forall_ne_some.2 fun b hb => hsweep b ⟨hreset, hdue, hb⟩)
  refine ⟨fun hdue => ?_, fun hdue => ?_, fun hdue => ⟨hswept hdue, fun hidle => ?_⟩⟩
    <;> refine List.head?_eq_none_iff.1 (Option.eq_none_iff_forall_ne_some.2 fun q hq => ?_)
  · exact hlookup q ⟨hreset, hdue, hq⟩
  · exact hupkeep q ⟨hreset, hq, .inl hdue⟩
  · exact hupkeep q ⟨hreset, hq, .inr ⟨hdue, hswept hdue, hidle⟩⟩

theorem exec_bankTurn_unused {s : State} {n : Fin 4} (h : s.unused n) :
    exec (.bankTurn n) s = .next (s.turned n .idle) := by
  obtain ⟨hlookup, hupkeep, hsweep⟩ := State.unused_queues h
  have hidle : (s.sweeper.state == .passing) = false → s.sweeper.state = .idle := by
    cases s.sweeper.state <;> decide
  have hturn := Bank.turn_unused hlookup hupkeep fun hdue => (hsweep hdue).imp_right fun hlent hp => hlent (hidle hp)
  rw [exec_bankTurn_of_turn h.1 hturn]
  simp only [State.serve, State.turned, reduceCtorEq, if_false]

/-- Settles O14: the arbiter's choice by the class at the position, one lemma for each kind of turn. -/
theorem bankTurnServesItsPosition : Obligations.BankTurnServesItsPosition := fun _ _ =>
  ⟨fun _ => exec_bankTurn_lookup, fun _ => exec_bankTurn_upkeep, fun _ => exec_bankTurn_sweep, exec_bankTurn_unused⟩

/-! ## SET PATTERN and READ PATTERN (R34, R36) -/

/-- A command ends at once where one reader reads exactly the frames that valid values write, the body of the command is the
effect of what is read, and every other frame ends BAD_ARG. -/
theorem endsAtOnce_of_read_iff {α : Type} {make : Fall → List Byte → Instr} {write : α → List Byte} {valid : α → Prop}
    {effect : α → State → State} (read : List Byte → Option α)
    (hread : ∀ args v, read args = some v ↔ valid v ∧ args = write v)
    (hexec : ∀ fell args s, exec (make fell args) s
      = s.command fell args fun t => (read args).elim (t.ended .badArg []) (effect · t)) :
    EndsAtOnce make write valid effect := by
  intro fell s hs
  refine ⟨fun v hv => ?_, fun args hargs => ?_⟩
  · rw [hexec, State.command_ready hs, (hread _ v).2 ⟨hv, rfl⟩, Option.elim_some]
  · have hnone : read args = none := Option.eq_none_iff_forall_ne_some.2 fun v hv =>
      have ⟨hvalid, hwritten⟩ := (hread args v).1 hv
      hargs v hvalid hwritten
    rw [hexec, State.command_ready hs, hnone, Option.elim_none]

/-- The checks of R34, as counts of the classes. -/
theorem Pattern.valid_iff (p : Pattern) :
    Pattern.valid p = true
      ↔ 2 ≤ p.toList.count .lookup ∧ 1 ≤ p.toList.count .upkeep ∧ 1 ≤ p.toList.count .sweep := by
  simp only [Pattern.valid, Bool.and_eq_true, decide_eq_true_eq, and_assoc]
  rfl

/-- What SET PATTERN reads: a bank and a pattern that passes the checks (R34). -/
def readBankPattern : List Byte → Option (Fin 4 × Pattern)
  | [] => none
  | n :: rest =>
    match readId 4 n, readPattern rest with
    | some n, some p => if Pattern.valid p then some (n, p) else none
    | _, _ => none

/-- SET PATTERN reads exactly the frames that are written from a bank and a valid pattern. -/
theorem readBankPattern_iff (args : List Byte) (v : Fin 4 × Pattern) :
    readBankPattern args = some v ↔ Pattern.valid v.2 = true ∧ args = Args.pattern v := by
  obtain ⟨n, p⟩ := v
  cases args with
  | nil => simp [readBankPattern, Args.pattern]
  | cons a rest =>
    have hframe : a :: rest = Args.pattern (n, p) ↔ readId 4 a = some n ∧ readPattern rest = some p := by
      rw [readId_iff (by decide), readPattern_iff, Args.pattern, List.cons.injEq]
    rw [hframe, readBankPattern]
    cases readId 4 a with
    | none => simp
    | some n' =>
      cases readPattern rest with
      | none => simp
      | some p' =>
        simp only [Option.ite_none_right_eq_some, Option.some.injEq, Prod.mk.injEq]
        constructor <;> (rintro ⟨hvalid, rfl, rfl⟩; exact ⟨hvalid, rfl, rfl⟩)

/-- A pattern is staged in place of any staged one (R35). -/
def State.stagePattern (s : State) (v : Fin 4 × Pattern) : State :=
  { s with banks := s.banks.set v.1 { s.banks[v.1] with staged := some v.2 } }

theorem exec_setPattern (fell : Fall) (args : List Byte) (s : State) :
    exec (.setPattern fell args) s
      = s.command fell args fun t =>
          (readBankPattern args).elim (t.ended .badArg []) fun v => (t.stagePattern v).ended .ok [] := by
  change execSetPattern fell args s = _
  unfold execSetPattern
  congr 1
  funext t
  simp only [State.finishPlain_eq]
  cases args with
  | nil => rfl
  | cons a rest =>
    simp only [readBankPattern]
    cases readId 4 a with
    | none => rfl
    | some n =>
      cases readPattern rest with
      | none => rfl
      | some p =>
        by_cases hvalid : Pattern.valid p = true
        · simp only [if_pos hvalid]; rfl
        · simp only [if_neg hvalid]; rfl

/-- What READ PATTERN reads: a bank alone (R36). -/
def readBank : List Byte → Option (Fin 4)
  | [n] => readId 4 n
  | _ => none

theorem readBank_iff (args : List Byte) (n : Fin 4) : readBank args = some n ↔ args = [byte1 n] := by
  match args with
  | [] => simp [readBank]
  | [a] => simp [readBank, readId_iff]
  | _ :: _ :: _ => simp [readBank]

theorem exec_readPattern (fell : Fall) (args : List Byte) (s : State) :
    exec (.readPattern fell args) s
      = s.command fell args fun t =>
          (readBank args).elim (t.ended .badArg []) fun n => t.ended .ok t.banks[n].form := by
  change execReadPattern fell args s = _
  unfold execReadPattern
  congr 1
  funext t
  simp only [State.finishPlain_eq, State.finish_eq]
  match args with
  | [] | _ :: _ :: _ => rfl
  | [a] =>
    simp only [readBank]
    cases readId 4 a <;> rfl

/-- Settles O36: each command's reader reads exactly the frames written from valid values, and its body is the effect stated. -/
theorem patternCommands : Obligations.PatternCommands := by
  constructor
  · refine endsAtOnce_of_read_iff readBankPattern (fun args v => ?_) exec_setPattern
    rw [readBankPattern_iff, Pattern.valid_iff]
  · refine endsAtOnce_of_read_iff readBank (fun args n => ?_) exec_readPattern
    rw [readBank_iff, true_and]

end Sys2Proof.Machine

/-! ## Day classes, open windows and profiles, and the effective floor set (R48, R53 to R55) -/

namespace Sys2Proof.Machine

/-- R53: a window is open through the part of it on its own day, or through what runs past midnight from the day before. -/
theorem Window.isOpen_iff (w : Window) (today yesterday m : Nat) :
    w.isOpen today yesterday m = true ↔
      (w.days.getLsbD today = true ∧ w.start ≤ m ∧ m < (if 1440 < w.stop then 1440 else w.stop))
        ∨ (1440 < w.stop ∧ w.days.getLsbD yesterday = true ∧ m + 1440 < w.stop) := by
  have hcut : min w.stop 1440 = if 1440 < w.stop then 1440 else w.stop := by
    split <;> omega
  simp only [Window.isOpen, Bool.or_eq_true, Bool.and_eq_true, decide_eq_true_eq, and_assoc, hcut]

/-- R54: one open window opens a profile. -/
theorem State.profileOpen_iff (s : State) (p : Profile) :
    s.profileOpen p = true ↔ ∃ w ∈ p.windows, w.isOpen s.today s.yesterday s.clock.minute = true :=
  List.any_eq_true

/-- R48, of today. -/
theorem State.today_eq (s : State) : s.today = if s.clock.day ∈ s.holidays then 7 else s.clock.weekday := by
  simp only [State.today, holidayClass, List.contains_iff_mem]

/-- The weekday before a weekday: before Monday, 0, stands Sunday, 6 (R39, R48). -/
theorem weekday_before {d : Nat} (h : d ≤ 6) : (d + 6) % 7 = if d = 0 then 6 else d - 1 := by
  split <;> omega

/-- R48, of yesterday: the day before day 0 is no listed day. -/
theorem State.yesterday_eq {s : State} (h : s.clock.weekday ≤ 6) :
    s.yesterday = if 1 ≤ s.clock.day ∧ s.clock.day - 1 ∈ s.holidays then 7
      else if s.clock.weekday = 0 then 6 else s.clock.weekday - 1 := by
  simp only [State.yesterday, holidayClass, List.contains_iff_mem, weekday_before h, Nat.one_le_iff_ne_zero]

/-- R55, of one floor. -/
theorem State.granted_iff (s : State) (r : Record) (f : Nat) :
    s.granted r f = true ↔
      f ∈ r.personal ∨ ∃ p ∈ r.profiles, s.profileOpen s.profiles[p] = true ∧ f ∈ s.profiles[p].floors := by
  simp only [State.granted, Bool.or_eq_true, Bool.and_eq_true, List.any_eq_true, List.contains_iff_mem]

/-- R55: the effective floors are the granted ones among the 160 floors of the building. -/
theorem State.mem_effectiveFloors (s : State) (r : Record) (f : Nat) :
    f ∈ s.effectiveFloors r ↔ f ≤ 159 ∧ s.granted r f = true := by
  rw [State.effectiveFloors, List.mem_filter, List.mem_range, Config.floors, Nat.lt_succ_iff]

/-- Settles O24, one lemma for each definition the statement speaks of. -/
theorem windowsProfilesAndEffectiveFloors : Obligations.WindowsProfilesAndEffectiveFloors := by
  refine ⟨Window.isOpen_iff, State.profileOpen_iff, fun s h => ⟨s.today_eq, State.yesterday_eq h⟩, fun s r f => ?_⟩
  rw [State.mem_effectiveFloors, State.granted_iff]

end Sys2Proof.Machine

/-! ## Editing the staged map (R59 to R62) -/

namespace Sys2Proof.Machine

/-- A byte within a range is one that a number of the range writes. -/
theorem le_and_eq_byte1_iff {k : Nat} (hk : k < 256) (b : Byte) (n : Nat) :
    (n ≤ k ∧ b = byte1 n) ↔ (b.toNat ≤ k ∧ b.toNat = n) := by
  constructor
  · rintro ⟨hn, rfl⟩
    rw [byte1_toNat (by omega)]
    exact ⟨hn, rfl⟩
  · rintro ⟨hb, rfl⟩
    exact ⟨hb, (byte1_of_toNat b).symm⟩

/-- The rule for a command whose frames do not fix the values they are written from (a floor list in any order, an unread
byte): its reader gives only the part of the values that the effect depends on. -/
theorem endsAtOnce_of_read_value {α β : Type} {make : Fall → List Byte → Instr} {write : α → List Byte}
    {valid : α → Prop} {effect : α → State → State} (read : List Byte → Option β) (value : α → β) (result : State → β → State)
    (hread : ∀ args x, read args = some x ↔ ∃ v, valid v ∧ args = write v ∧ value v = x)
    (hexec : ∀ fell args s, exec (make fell args) s
      = s.command fell args fun t => (read args).elim (t.ended .badArg []) (result t))
    (heffect : ∀ v t, result t (value v) = effect v t) :
    EndsAtOnce make write valid effect := by
  refine endsAtOnce_of_read read (fun x t => result t x) (fun fell args s => ?_) (fun v hv => ?_) fun args x hx => ?_
  · rw [hexec]
    congr 1
    funext t
    cases read args with
    | none => exact (State.finishPlain_eq t .badArg).symm
    | some x => rfl
  · exact ⟨value v, (hread _ _).2 ⟨v, hv, rfl, rfl⟩, heffect v⟩
  · obtain ⟨v, hv, hargs, -⟩ := (hread args x).1 hx
    exact ⟨v, hv, hargs⟩

/-! ### SET FLOOR (R59) -/

/-- The values that R59 admits. -/
def FloorEditAdmitted : Args.FloorEdit → Prop
  | .count n => n ≤ 160
  | .range first last _ => first ≤ last ∧ last ≤ 159

/-- What SET FLOOR reads: the count form or the range form (R59). -/
def readFloorEdit : List Byte → Option Args.FloorEdit
  | [form, count] => if form = 0 ∧ count.toNat ≤ Config.floors then some (.count count.toNat) else none
  | [form, first, last, zone] =>
    (readOptZone zone).bind fun z =>
      if form = 1 ∧ first.toNat < Config.floors ∧ last.toNat < Config.floors ∧ first.toNat ≤ last.toNat then
        some (.range first.toNat last.toNat z)
      else none
  | _ => none

theorem readFloorEdit_count_iff (form count : Byte) (e : Args.FloorEdit) :
    readFloorEdit [form, count] = some e ↔ FloorEditAdmitted e ∧ [form, count] = Args.floorEdit e := by
  rw [readFloorEdit, Config.floors, Option.ite_none_right_eq_some, Option.some.injEq]
  cases e with
  | count n =>
    have hcount := le_and_eq_byte1_iff (k := 160) (by decide) count n
    simp only [Args.FloorEdit.count.injEq, FloorEditAdmitted, Args.floorEdit, List.cons.injEq, and_true]
    tauto
  | range first last zone => simp [Args.floorEdit]

theorem readFloorEdit_range_iff (form first last zone : Byte) (e : Args.FloorEdit) :
    readFloorEdit [form, first, last, zone] = some e
      ↔ FloorEditAdmitted e ∧ [form, first, last, zone] = Args.floorEdit e := by
  have hfloors : Config.floors = 160 := rfl
  simp only [readFloorEdit, Option.bind_eq_some_iff, Option.ite_none_right_eq_some, Option.some.injEq]
  cases e with
  | count n => simp [Args.floorEdit]
  | range m n z =>
    simp only [Args.FloorEdit.range.injEq, FloorEditAdmitted, Args.floorEdit, List.cons.injEq, and_true,
      ← readOptZone_iff]
    constructor
    · rintro ⟨z, hzone, ⟨rfl, -, hlast, hle⟩, rfl, rfl, rfl⟩
      exact ⟨⟨hle, by omega⟩, rfl, (byte1_of_toNat first).symm, (byte1_of_toNat last).symm, hzone⟩
    · rintro ⟨⟨hle, hlast⟩, rfl, rfl, rfl, hzone⟩
      have hm : (byte1 m).toNat = m := byte1_toNat (by omega)
      have hn : (byte1 n).toNat = n := byte1_toNat (by omega)
      exact ⟨z, hzone, ⟨rfl, by omega, by omega, by omega⟩, hm, hn, rfl⟩

/-- SET FLOOR reads exactly the frames that are written from admitted values of one of its forms. -/
theorem readFloorEdit_iff (args : List Byte) (e : Args.FloorEdit) :
    readFloorEdit args = some e ↔ FloorEditAdmitted e ∧ args = Args.floorEdit e := by
  match args with
  | [form, count] => exact readFloorEdit_count_iff form count e
  | [form, first, last, zone] => exact readFloorEdit_range_iff form first last zone e
  | [] | [_] | [_, _, _] | _ :: _ :: _ :: _ :: _ :: _ => cases e <;> simp [readFloorEdit, Args.floorEdit]

/-- The effect of SET FLOOR: the staged count, or the zone of every floor of the range (R59). -/
def State.floorEdited (s : State) : Args.FloorEdit → State
  | .count n => { s with staged := { s.staged with count := n } }.ended .ok []
  | .range first last zone => { s with staged := s.staged.setZones first last zone }.ended .ok []

theorem exec_setFloor (fell : Fall) (args : List Byte) (s : State) :
    exec (.setFloor fell args) s
      = s.command fell args fun t => (readFloorEdit args).elim (t.ended .badArg []) t.floorEdited := by
  change execSetFloor fell args s = _
  unfold execSetFloor
  congr 1
  funext t
  simp only [State.finishPlain_eq]
  match args with
  | [] | [_] | [_, _, _] | _ :: _ :: _ :: _ :: _ :: _ => rfl
  | [form, count] =>
    simp only [readFloorEdit]
    split_ifs <;> rfl
  | [form, first, last, zone] =>
    simp only [readFloorEdit]
    cases readOptZone zone with
    | none => rfl
    | some z =>
      simp only [Option.bind_some]
      split_ifs <;> rfl

/-! ### SET GROUP (R60) -/

/-- A floor set is read exactly from the lists of the building's floors, each floor kept once (R60). -/
theorem readFloorSet_iff (bytes : List Byte) (fs : FloorSet) :
    readFloorSet bytes = some fs
      ↔ ∃ l : List Nat, (l.length ≤ 160 ∧ ∀ f ∈ l, f ≤ 159) ∧ bytes = Args.floors l ∧ floorSet l = fs := by
  have hread (l : List Nat) : readFloorList bytes = some (l, []) ↔
      l.length ≤ 160 ∧ (∀ f ∈ l, f < 256) ∧ bytes = Args.floors l := by
    rw [readFloorList_iff, List.append_nil]
  constructor
  · intro h
    unfold readFloorSet at h
    split at h
    next l hl =>
      obtain ⟨hlen, -, hbytes⟩ := (hread l).1 hl
      rw [Option.ite_none_right_eq_some, Option.some.injEq, List.all_eq_true] at h
      obtain ⟨hall, hfs⟩ := h
      exact ⟨l, ⟨hlen, fun f hf => Nat.le_of_lt_succ (of_decide_eq_true (hall f hf))⟩, hbytes, hfs⟩
    next => cases h
  · rintro ⟨l, ⟨hlen, hfloors⟩, hbytes, rfl⟩
    have hl := (hread l).2 ⟨hlen, fun f hf => by have := hfloors f hf; omega, hbytes⟩
    have hall : l.all (fun f => decide (f < Config.floors)) = true :=
      List.all_eq_true.2 fun f hf => decide_eq_true (Nat.lt_succ_of_le (hfloors f hf))
    simp only [readFloorSet, hl, hall, if_true]

/-- What SET GROUP reads: a group and its floor set (R60). -/
def readGroupEdit : List Byte → Option (Fin 12 × FloorSet)
  | [] => none
  | g :: rest => (readId 12 g).bind fun g => (readFloorSet rest).map fun fs => (g, fs)

/-- SET GROUP reads exactly the frames that are written from a group and a list of the building's floors. -/
theorem readGroupEdit_iff (args : List Byte) (x : Fin 12 × FloorSet) :
    readGroupEdit args = some x
      ↔ ∃ v : Fin 12 × List Nat, (v.2.length ≤ 160 ∧ ∀ f ∈ v.2, f ≤ 159) ∧ args = byte1 v.1 :: Args.floors v.2
        ∧ (v.1, floorSet v.2) = x := by
  obtain ⟨g, fs⟩ := x
  cases args with
  | nil => simp [readGroupEdit]
  | cons a rest =>
    have hedit : readGroupEdit (a :: rest) = some (g, fs) ↔ readId 12 a = some g ∧ readFloorSet rest = some fs := by
      simp [readGroupEdit, Option.bind_eq_some_iff, Option.map_eq_some_iff]
    rw [hedit, readId_iff (by decide), readFloorSet_iff]
    constructor
    · rintro ⟨rfl, l, hl, rfl, rfl⟩
      exact ⟨(g, l), hl, rfl, rfl⟩
    · rintro ⟨⟨g', l⟩, hl, hargs, hvalue⟩
      obtain ⟨rfl, rfl⟩ := Prod.mk.inj hvalue
      obtain ⟨rfl, rfl⟩ := List.cons.inj hargs
      exact ⟨rfl, l, hl, rfl, rfl⟩

/-- The effect of SET GROUP: the group's whole served set in the staged map (R60). -/
def State.groupEdited (s : State) (v : Fin 12 × FloorSet) : State :=
  { s with staged := { s.staged with served := s.staged.served.set v.1 v.2 } }.ended .ok []

theorem exec_setGroup (fell : Fall) (args : List Byte) (s : State) :
    exec (.setGroup fell args) s
      = s.command fell args fun t => (readGroupEdit args).elim (t.ended .badArg []) t.groupEdited := by
  change execSetGroup fell args s = _
  unfold execSetGroup
  congr 1
  funext t
  cases args with
  | nil => rfl
  | cons g rest =>
    simp only [readGroupEdit, State.finishPlain_eq]
    cases readId 12 g with
    | none => rfl
    | some g => cases readFloorSet rest <;> rfl

/-! ### SET ZONE (R61) -/

/-- What SET ZONE reads: a zone, a local group and a standby group that passes the checks of R61. -/
def readZoneEdit : List Byte → Option (Fin 8 × Option (Fin 12) × Option (Fin 12))
  | [z, l, b] =>
    match readId 8 z, readOptGroup l, readOptGroup b with
    | some z, some l, some b => if b.isSome ∧ (l = none ∨ b = l) then none else some (z, l, b)
    | _, _, _ => none
  | _ => none

/-- R61 refuses a standby group beside no local group or beside itself. -/
theorem standby_admitted_iff (l b : Option (Fin 12)) :
    ¬ (b.isSome ∧ (l = none ∨ b = l)) ↔ (b ≠ none → l ≠ none ∧ b ≠ l) := by
  rw [Option.isSome_iff_ne_none]
  tauto

/-- SET ZONE reads exactly the frames that are written from a zone and two groups that R61 admits. -/
theorem readZoneEdit_iff (args : List Byte) (v : Fin 8 × Option (Fin 12) × Option (Fin 12)) :
    readZoneEdit args = some v
      ↔ (v.2.2 ≠ none → v.2.1 ≠ none ∧ v.2.2 ≠ v.2.1)
        ∧ args = [byte1 v.1, Args.optional v.2.1, Args.optional v.2.2] := by
  obtain ⟨z, l, b⟩ := v
  match args with
  | [] | [_] | [_, _] | _ :: _ :: _ :: _ :: _ => simp [readZoneEdit]
  | [x, y, w] =>
    rw [← standby_admitted_iff]
    simp only [List.cons.injEq, and_true, ← readId_iff (show 8 ≤ 256 by decide), ← readOptGroup_iff, readZoneEdit]
    cases readId 8 x with
    | none => simp
    | some z' =>
      cases readOptGroup y with
      | none => simp
      | some l' =>
        cases readOptGroup w with
        | none => simp
        | some b' =>
          simp only [Option.ite_none_left_eq_some, Option.some.injEq, Prod.mk.injEq]
          constructor <;> (rintro ⟨hgroups, rfl, rfl, rfl⟩; exact ⟨hgroups, rfl, rfl, rfl⟩)

/-- The effect of SET ZONE: both groups of the zone in the staged map (R61). -/
def State.zoneEdited (s : State) (v : Fin 8 × Option (Fin 12) × Option (Fin 12)) : State :=
  { s with
    staged := { s.staged with
      zoneTable := s.staged.zoneTable.set v.1 { localGroup := v.2.1, standby := v.2.2 } } }.ended .ok []

theorem exec_setZone (fell : Fall) (args : List Byte) (s : State) :
    exec (.setZone fell args) s
      = s.command fell args fun t => (readZoneEdit args).elim (t.ended .badArg []) t.zoneEdited := by
  change execSetZone fell args s = _
  unfold execSetZone
  congr 1
  funext t
  simp only [State.finishPlain_eq]
  match args with
  | [] | [_] | [_, _] | _ :: _ :: _ :: _ :: _ => rfl
  | [z, l, b] =>
    simp only [readZoneEdit]
    cases readId 8 z with
    | none => rfl
    | some z =>
      cases readOptGroup l with
      | none => rfl
      | some l =>
        cases readOptGroup b with
        | none => rfl
        | some b => dsimp only; split_ifs <;> rfl

/-! ### SET TRANSFER (R62) -/

/-- A transfer is a group with a floor of the building, or absent for group 255 with any floor byte (R62, R195). -/
theorem readTransfer_iff (g f : Byte) (t : Option Transfer) :
    readTransfer g f = some t
      ↔ (∀ e, t = some e → e.floor ≤ 159)
        ∧ g = Args.optional (t.map Transfer.group) ∧ ∀ e, t = some e → f = byte1 e.floor := by
  rw [← readOptGroup_iff, readTransfer]
  cases t with
  | none => rcases readOptGroup g with _ | _ | group <;> simp
  | some e =>
    obtain ⟨group, floor⟩ := e
    have hfloor := le_and_eq_byte1_iff (k := 159) (by decide) f floor
    rcases readOptGroup g with _ | _ | group'
    · simp
    · simp
    · simp only [Option.ite_none_right_eq_some, Config.floors, Option.some.injEq, Transfer.mk.injEq, Option.map_some,
        forall_eq', Nat.lt_succ_iff]
      tauto

/-- What SET TRANSFER reads: two different zones and the entry (R62). -/
def readTransferEdit : List Byte → Option (Fin 8 × Fin 8 × Option Transfer)
  | [a, b, g, f] =>
    match readId 8 a, readId 8 b, readTransfer g f with
    | some a, some b, some t => if a = b then none else some (a, b, t)
    | _, _, _ => none
  | _ => none

/-- Reading a transfer frame is reading its zones and its transfer, with the zones different (R62). -/
theorem readTransferEdit_frame_iff (a b g f : Byte) (x : Fin 8 × Fin 8 × Option Transfer) :
    readTransferEdit [a, b, g, f] = some x
      ↔ readId 8 a = some x.1 ∧ readId 8 b = some x.2.1 ∧ readTransfer g f = some x.2.2 ∧ x.1 ≠ x.2.1 := by
  obtain ⟨origin, destination, t⟩ := x
  simp only [readTransferEdit]
  cases readId 8 a with
  | none => simp
  | some a' =>
    cases readId 8 b with
    | none => simp
    | some b' =>
      cases readTransfer g f with
      | none => simp
      | some t' =>
        simp only [Option.ite_none_left_eq_some, Option.some.injEq, Prod.mk.injEq]
        constructor
        · rintro ⟨hne, rfl, rfl, rfl⟩; exact ⟨rfl, rfl, rfl, hne⟩
        · rintro ⟨rfl, rfl, rfl, hne⟩; exact ⟨hne, rfl, rfl, rfl⟩

/-- The frames of SET TRANSFER, byte by byte; the floor byte of an absent entry is any byte (R195). -/
theorem transfer_frame_iff (a b g f : Byte) (origin destination : Fin 8) (t : Option Transfer) :
    (∃ unread, [a, b, g, f] = Args.transfer ⟨origin, destination, t, unread⟩)
      ↔ a = byte1 origin ∧ b = byte1 destination ∧ g = Args.optional (t.map Transfer.group)
        ∧ ∀ e, t = some e → f = byte1 e.floor := by
  cases t <;> simp [Args.transfer, Args.optional]

/-- SET TRANSFER reads exactly the frames of two different zones and an entry whose floor is the building's (R62). -/
theorem readTransferEdit_iff (args : List Byte) (x : Fin 8 × Fin 8 × Option Transfer) :
    readTransferEdit args = some x
      ↔ ∃ v : Args.TransferValues, (v.origin ≠ v.destination ∧ ∀ e, v.entry = some e → e.floor ≤ 159)
        ∧ args = Args.transfer v ∧ (v.origin, v.destination, v.entry) = x := by
  have hvalues : (∃ v : Args.TransferValues, (v.origin ≠ v.destination ∧ ∀ e, v.entry = some e → e.floor ≤ 159)
        ∧ args = Args.transfer v ∧ (v.origin, v.destination, v.entry) = x)
      ↔ (x.1 ≠ x.2.1 ∧ ∀ e, x.2.2 = some e → e.floor ≤ 159)
        ∧ ∃ unread, args = Args.transfer ⟨x.1, x.2.1, x.2.2, unread⟩ := by
    constructor
    · rintro ⟨v, hv, hargs, rfl⟩
      exact ⟨hv, v.unread, hargs⟩
    · rintro ⟨hx, unread, hargs⟩
      exact ⟨⟨x.1, x.2.1, x.2.2, unread⟩, hx, hargs, rfl⟩
  rw [hvalues]
  match args with
  | [] | [_] | [_, _] | [_, _, _] | _ :: _ :: _ :: _ :: _ :: _ =>
    cases x.2.2 <;> simp [readTransferEdit, Args.transfer]
  | [a, b, g, f] =>
    rw [readTransferEdit_frame_iff, transfer_frame_iff, readId_iff (by decide), readId_iff (by decide),
      readTransfer_iff]
    tauto

/-- The effect of SET TRANSFER: one entry of the staged map, or its absence (R62). -/
def State.transferEdited (s : State) (v : Fin 8 × Fin 8 × Option Transfer) : State :=
  { s with
    staged := { s.staged with transfers := s.staged.transfers.set (transferIndex v.1 v.2.1) v.2.2 } }.ended .ok []

theorem exec_setTransfer (fell : Fall) (args : List Byte) (s : State) :
    exec (.setTransfer fell args) s
      = s.command fell args fun t => (readTransferEdit args).elim (t.ended .badArg []) t.transferEdited := by
  change execSetTransfer fell args s = _
  unfold execSetTransfer
  congr 1
  funext t
  match args with
  | [] | [_] | [_, _] | [_, _, _] | _ :: _ :: _ :: _ :: _ :: _ => rfl
  | [a, b, g, f] =>
    simp only [readTransferEdit, State.finishPlain_eq]
    cases readId 8 a with
    | none => rfl
    | some a =>
      cases readId 8 b with
      | none => rfl
      | some b =>
        cases readTransfer g f with
        | none => rfl
        | some x => dsimp only; split_ifs <;> rfl

/-- Settles O30: each command's reader reads exactly the frames its admitted values write, and its body is the effect stated. -/
theorem mapEditingWritesTheStagedMap : Obligations.MapEditingWritesTheStagedMap := by
  refine ⟨?setFloor, ?setGroup, ?setZone, ?setTransfer⟩
  case setFloor => exact endsAtOnce_of_read_iff readFloorEdit readFloorEdit_iff exec_setFloor
  case setGroup =>
    refine endsAtOnce_of_read_value readGroupEdit (fun v => (v.1, floorSet v.2)) State.groupEdited readGroupEdit_iff
      exec_setGroup fun v t => ?_
    rw [floorSet_eq]
    rfl
  case setZone => exact endsAtOnce_of_read_iff readZoneEdit readZoneEdit_iff exec_setZone
  case setTransfer =>
    exact endsAtOnce_of_read_value readTransferEdit (fun v => (v.origin, v.destination, v.entry)) State.transferEdited
      readTransferEdit_iff exec_setTransfer fun _ _ => rfl

end Sys2Proof.Machine

/-! ## An ASSIGN of an outstanding offer (R97, R140, R149) -/

namespace Sys2Proof.Machine

theorem exec_assign (tag : Byte) (car : Fin 16) (s : State) : exec (.assign tag car) s = execAssign tag car s := rfl

/-- The liveness step writes no entry, so the same offer is found after it (R132, R140). -/
@[simp] theorem State.heard_outstanding (s : State) (tag : Byte) : s.heard.outstanding tag = s.outstanding tag := by
  simp only [State.outstanding, State.heard_entries]

/-- A trip is created where the route needs one and fewer than 256 trips of other keys stand (R149). -/
theorem State.createsTrip_eq (s : State) (k : Key) (r : Route) :
    s.createsTrip k r = (r.tripNeeded && decide ((s.trips.filter fun x => x.key != k).length < 256)) := rfl

/-- An ASSIGN writes the Trip Table alone: the key's trip is gone, and a new one stands last where one is created (R149). -/
theorem State.assignTrip_eq (s : State) (k : Key) (r : Route) :
    s.assignTrip k r
      = { s with
          trips :=
            if s.createsTrip k r then
              s.trips.filter (fun x => x.key != k) ++ [
                { key := k, transfer := r.target, finalFloor := r.finalFloor, group := r.group,
                  remaining := s.settings.timers.tripLifetime }]
            else s.trips.filter fun x => x.key != k } := by
  cases h : s.createsTrip k r with
  | true => simp only [State.assignTrip, h, if_true, State.removeTrip_trips]
  | false => simp only [State.assignTrip, h, Bool.false_eq_true, if_false, State.removeTrip]

/-- Posting writes no entry, so answering and freeing empties the one place among the entries as they stood (R73, R120). -/
theorem State.answerAndFree_eq (s : State) (e : Fin 64) (en : Entry) (r : Reply) :
    s.answerAndFree e en r = { s.post e en r with entries := s.entries.set e none } := by
  simp only [State.answerAndFree, State.setEntry, State.post_entries]

/-- The answer to a granted offer: the Trip Table, then ACCEPT and the freed entry (R97). -/
theorem State.assigned_granted (s : State) {e : Fin 64} {en : Entry} {car : Fin 16} {g : Grant} (hg : en.grant = some g) :
    s.assigned e en car
      = (s.assignTrip en.key g.route).answerAndFree e en
          (.accept g.route.group car g.route.target (s.createsTrip en.key g.route)) := by
  simp only [State.assigned, hg]

/-- Tags are distinct, so an ASSIGN answers the one outstanding offer of its tag, after the liveness step (R132, R140). -/
theorem exec_assign_outstanding {s : State} {tag : Byte} {e : Fin 64} {en : Entry} (hreset : s.inReset = false)
    (hk : s.TagsKept) (ho : s.Outstanding tag e en) (car : Fin 16) :
    exec (.assign tag car) s = .next (s.heard.assigned e en car) := by
  simp only [exec_assign, execAssign, State.receive_eq hreset, State.heard_outstanding, State.outstanding_unique hk ho]

/-- Settles O45: the found offer's answer, with what the liveness step leaves as it was (trips, timers, entries). -/
theorem assignAcceptsAndKeepsTheTrip : Obligations.AssignAcceptsAndKeepsTheTrip := by
  intro s tag car e en g hreset hk ho hg
  rw [exec_assign_outstanding hreset hk ho, State.assigned_granted _ hg, State.answerAndFree_eq, State.assignTrip_eq]
  simp only [State.createsTrip_eq, State.heard_trips, State.heard_settings, State.heard_entries]

end Sys2Proof.Machine

/-! ## The supervision of a drop (R112 to R114) -/

namespace Sys2Proof.Machine

theorem Drop.answering_iff (x : Drop) : x.answering = true ↔ x.state = .online ∨ x.state = .degraded := by
  simp only [Drop.answering, Bool.or_eq_true, beq_iff_eq]

/-- A judgement moves a drop between ONLINE and DEGRADED only, so none becomes LOST by its block (R114). -/
theorem judged_ne_lost {st : DropState} (h : st ≠ .lost) (failed : Nat) : judged st failed ≠ .lost := by
  unfold judged
  split_ifs
  · exact DropState.noConfusion
  · exact DropState.noConfusion
  · exact h

theorem Drop.Counted.state_ne_lost {x y : Drop} {failed : Nat} (h : x.Counted y failed) (hx : x.state ≠ .lost) :
    y.state ≠ .lost := by
  unfold Drop.Counted at h
  split_ifs at h
  · rw [h]
    exact judged_ne_lost hx _
  · rwa [h]

/-- Before its 64th poll a block only counts (R114). -/
theorem Drop.countBlock_within {x : Drop} (h : x.blockPolls + 1 ≠ 64) (good : Bool) :
    x.countBlock good
      = ({ x with blockPolls := x.blockPolls + 1, blockFailed := x.blockFailed + (if good then 0 else 1) }, false) := by
  simp only [Drop.countBlock, Config.blockLength, h, if_false]

/-- The 64th poll ends the block with its judgement, and tells of a fall to DEGRADED (R114). -/
theorem Drop.countBlock_ends {x : Drop} (h : x.blockPolls + 1 = 64) (good : Bool) :
    x.countBlock good
      = ({ x with
            state := judged x.state (x.blockFailed + (if good then 0 else 1)), blockPolls := 0, blockFailed := 0 },
          x.state == .online && judged x.state (x.blockFailed + (if good then 0 else 1)) == .degraded) := by
  cases hst : x.state <;> simp [Drop.countBlock, Config.blockLength, h, hst, judged]

/-- Counting in the block does what `Drop.Counted` says, and tells of a fall from ONLINE to DEGRADED alone. -/
theorem Drop.Counted.countBlock_eq {x y : Drop} {good : Bool} (h : x.Counted y (if good then 0 else 1)) :
    x.countBlock good = (y, x.state == .online && y.state == .degraded) := by
  unfold Drop.Counted at h
  by_cases hends : x.blockPolls + 1 = 64
  · rw [if_pos hends] at h
    subst h
    exact Drop.countBlock_ends hends good
  · rw [if_neg hends] at h
    subst h
    rw [Drop.countBlock_within hends]
    cases x.state <;> rfl

/-! ### A good answer -/

theorem Drop.superviseGood_counted {x y : Drop} (hx : x.answering = true)
    (h : { x with good := min 2 (x.good + 1), failed := 0 }.Counted y 0) :
    x.superviseGood = (y, x.state == .online && y.state == .degraded) :=
  (if_pos hx).trans (Drop.Counted.countBlock_eq (good := true) h)

/-- R112: the second consecutive good answer takes a SEEKING or LOST drop to ONLINE. -/
theorem Drop.superviseGood_second {x : Drop} (hx : x.state = .seeking ∨ x.state = .lost) (hgood : 1 ≤ x.good) :
    x.superviseGood = ({ x with state := .online, good := 0, failed := 0, blockPolls := 0, blockFailed := 0 }, false) := by
  have htwo : min 2 (x.good + 1) = 2 := by omega
  rcases hx with hx | hx <;> simp [Drop.superviseGood, Drop.answering, Drop.zeroed, hx, htwo]

theorem Drop.superviseGood_counts {x : Drop} (hx : x.answering = false)
    (h : ¬ ((x.state = .seeking ∨ x.state = .lost) ∧ 1 ≤ x.good)) :
    x.superviseGood = ({ x with good := min 2 (x.good + 1), failed := 0 }, false) := by
  have htwo : min 2 (x.good + 1) = 2 ↔ 1 ≤ x.good := by omega
  simp only [Drop.superviseGood, htwo, h, if_false]
  exact if_neg (Bool.eq_false_iff.1 hx)

/-! ### A failed poll -/

/-- R113: the third consecutive failure takes an ONLINE or DEGRADED drop to LOST. -/
theorem Drop.superviseFailed_third {x : Drop} (hx : x.answering = true) (hfailed : 2 ≤ x.failed) :
    x.superviseFailed
      = ({ lobby := x.lobby, state := .lost, mode := x.mode, good := 0, failed := 0, blockPolls := 0, blockFailed := 0,
           transaction := none, side := none }, true) := by
  have hthree : min 3 (x.failed + 1) = 3 := by omega
  exact (if_pos hx).trans (if_pos hthree)

theorem Drop.superviseFailed_counted {x y : Drop} (hx : x.answering = true) (hfailed : ¬ 2 ≤ x.failed)
    (h : { x with good := 0, failed := min 3 (x.failed + 1) }.Counted y 1) :
    x.superviseFailed = (y, x.state == .online && y.state == .degraded) := by
  have hthree : min 3 (x.failed + 1) ≠ 3 := by omega
  exact (if_pos hx).trans ((if_neg hthree).trans (Drop.Counted.countBlock_eq (good := false) h))

theorem Drop.superviseFailed_counts {x : Drop} (hx : x.answering = false) :
    x.superviseFailed = ({ x with good := 0, failed := min 3 (x.failed + 1) }, false) :=
  if_neg (Bool.eq_false_iff.1 hx)

/-! ### The step -/

/-- Supervision writes the drop's new record, raises DROP_CHANGE where it is told to, and recomputes the lobbies. -/
theorem State.supervise_eq (s : State) (l : Fin 4) (d : Fin 28) (good : Bool) {y : Drop} {told : Bool}
    (h : (if good then (s.drop l d).superviseGood else (s.drop l d).superviseFailed) = (y, told)) {p : Prop} [Decidable p]
    (hp : told = true ↔ p) :
    s.supervise l d good
      = ({ (s.setDrop l d y) with
            attention := if p then { s.attention with pending := s.attention.pending ||| 1#8 } else s.attention }).recompute := by
  simp only [State.supervise, h, hp]
  congr 1
  split_ifs
  · simp only [State.raise, Attention.raise, Source.mask_dropChange, State.setDrop_attention]
  · rfl

/-- DROP_CHANGE is told of exactly where an ONLINE drop fell to DEGRADED. -/
theorem fell_iff (st st' : DropState) :
    (st == .online && st' == .degraded) = true ↔ st = .online ∧ st' = .degraded := by
  simp only [Bool.and_eq_true, beq_iff_eq]

/-- Settles O42: the outcome's branches, each by the rule for the drop and whether it tells of DROP_CHANGE. -/
theorem supervisionOfDrops : Obligations.SupervisionOfDrops := by
  intro s l d x answers
  refine ⟨fun y hy => ?_, fun y hy => ?_⟩
  · simp only at hy
    split_ifs at hy with hx hsecond
    · exact s.supervise_eq l d true (Drop.superviseGood_counted hx hy) (fell_iff _ _)
    · subst hy
      exact s.supervise_eq l d true (Drop.superviseGood_second hsecond.1 hsecond.2) (by simp)
    · subst hy
      refine s.supervise_eq l d true (Drop.superviseGood_counts (Bool.eq_false_iff.2 hx) hsecond) ?_
      cases x.state <;> simp
  · simp only at hy
    split_ifs at hy with hthird hx
    · subst hy
      exact s.supervise_eq l d false (Drop.superviseFailed_third hthird.1 hthird.2) (by simp [hthird.1])
    · have hfew : ¬ 2 ≤ x.failed := fun h => hthird ⟨hx, h⟩
      have hlost : x.state ≠ .lost := by
        rcases x.answering_iff.1 hx with h | h <;> simp [h]
      have hkept : y.state ≠ .lost := Drop.Counted.state_ne_lost hy hlost
      have htold : (x.state == .online && y.state == .degraded) = true
          ↔ answers = true ∧ (y.state = .lost ∨ (x.state = .online ∧ y.state = .degraded)) := by
        rw [fell_iff, or_iff_right hkept, iff_and_self]
        exact fun _ => hx
      exact s.supervise_eq l d false (Drop.superviseFailed_counted hx hfew hy) htold
    · subst hy
      exact s.supervise_eq l d false (Drop.superviseFailed_counts (Bool.eq_false_iff.2 hx)) (by simp [hx])

end Sys2Proof.Machine

/-! ## The SWEEP turn (R164, R165, R167) -/

namespace Sys2Proof.Machine

/-! ### What a swept way holds -/

/-- What the sweep turn leaves in a way that held `x` when the turn began (R165). -/
def sweptSlot (now grace : Nat) (x : Option Record) : Option Record :=
  if sweepRetires now grace x then none
  else if sweepLapses now x then x.map Record.lapse
  else x

theorem exists_of_sweepLapses {now : Nat} {x : Option Record} (h : sweepLapses now x = true) : ∃ r, x = some r := by
  cases x with
  | none => exact absurd h Bool.false_ne_true
  | some r => exact ⟨r, rfl⟩

theorem exists_of_sweepRetires {now grace : Nat} {x : Option Record} (h : sweepRetires now grace x = true) :
    ∃ r, x = some r := by
  cases x with
  | none => exact absurd h Bool.false_ne_true
  | some r => exact ⟨r, rfl⟩

/-- R165: a way lapses only what is ACTIVE or SUSPENDED and retires only what is SPENT or LAPSED. -/
theorem sweepRetires_of_lapses {now : Nat} {x : Option Record} (grace : Nat) (h : sweepLapses now x = true) :
    sweepRetires now grace x = false := by
  cases x with
  | none => rfl
  | some r => cases hstate : r.state <;> simp_all [sweepLapses, sweepRetires]

theorem sweptSlot_retired {now grace : Nat} {x : Option Record} (h : sweepRetires now grace x = true) :
    sweptSlot now grace x = none :=
  if_pos h

theorem sweptSlot_lapsed {now : Nat} {r : Record} (grace : Nat) (h : sweepLapses now (some r) = true) :
    sweptSlot now grace (some r) = some r.lapse := by
  simp [sweptSlot, sweepRetires_of_lapses grace h, h]

theorem sweptSlot_left {now grace : Nat} {x : Option Record} (hl : sweepLapses now x = false)
    (hr : sweepRetires now grace x = false) : sweptSlot now grace x = x := by
  simp [sweptSlot, hl, hr]

/-! ### The sweep of one way -/

/-- The part with a swept store and the counts of the pass grown (R165). -/
def State.sweptTo (s : State) (st : Store) (lapsed retired : Nat) : State :=
  { s with
    store := st
    sweeper := { s.sweeper with
      passLapsed := s.sweeper.passLapsed + lapsed, passRetired := s.sweeper.passRetired + retired } }

theorem State.sweepWay_lapses {s : State} {b : Bucket} {w : Way} {r : Record} (hs : s.store.slot b w = some r)
    (h : sweepLapses s.now (some r) = true) : s.sweepWay b w = s.sweptTo (s.store.write b w r.lapse) 1 0 := by
  simp only [sweepLapses, Bool.and_eq_true, Bool.or_eq_true, beq_iff_eq] at h
  simp only [State.sweepWay, hs, h, if_true, State.sweptTo, Nat.add_zero]

theorem State.sweepWay_retires {s : State} {b : Bucket} {w : Way} {r : Record} (hs : s.store.slot b w = some r)
    (h : sweepRetires s.now s.settings.timers.retireGrace (some r) = true) :
    s.sweepWay b w = s.sweptTo (s.store.release b w) 0 1 := by
  simp only [sweepRetires, Bool.and_eq_true, Bool.or_eq_true, beq_iff_eq, decide_eq_true_eq] at h
  obtain ⟨hstate, hdue⟩ := h
  have hstanding : ¬ (r.state = .active ∨ r.state = .suspended) := by
    rcases hstate with hst | hst <;> simp [hst]
  simp only [State.sweepWay, hs, hstanding, hdue, if_true, if_false, State.sweptTo, Nat.add_zero]

theorem State.sweepWay_leaves {s : State} {b : Bucket} {w : Way} (hl : sweepLapses s.now (s.store.slot b w) = false)
    (hr : sweepRetires s.now s.settings.timers.retireGrace (s.store.slot b w) = false) : s.sweepWay b w = s := by
  cases hs : s.store.slot b w with
  | none => simp only [State.sweepWay, hs]
  | some r =>
    rw [hs] at hl hr
    cases hstate : r.state <;> simp_all [sweepLapses, sweepRetires, State.sweepWay]

/-! ### The sweep of several ways of a bucket -/

/-- The store after the ways `l` of a bucket are swept, each judged by what it held before (R9, R12, R165). -/
structure Store.Swept (st st' : Store) (now grace : Nat) (b : Bucket) (l : List Way) : Prop where
  kept : st'.Kept
  slot : ∀ w ∈ l, st'.slot b w = sweptSlot now grace (st.slot b w)
  other : ∀ b' w, (b' = b → w ∉ l) → st'.slot b' w = st.slot b' w
  occupancy : st'.occupancy + l.countP (fun w => sweepRetires now grace (st.slot b w)) = st.occupancy
  edition : st'.edition = st.edition

theorem Store.Swept.refl {st : Store} (h : st.Kept) (now grace : Nat) (b : Bucket) : st.Swept st now grace b [] :=
  ⟨h, by simp, fun _ _ _ => rfl, by simp, rfl⟩

theorem pair_ne_of_not_mem_singleton {b b' : Bucket} {w w' : Way} (h : b' = b → w' ∉ [w]) : (b', w') ≠ (b, w) := by
  rintro ⟨⟩
  exact h rfl (List.mem_singleton_self w)

/-- A kept store counts the record that a release frees, so its occupancy falls by 1 (R9). -/
theorem Store.occupancy_release {st : Store} (h : st.Kept) {b : Bucket} {w : Way} {r : Record}
    (hs : st.slot b w = some r) : (st.release b w).occupancy + 1 = st.occupancy := by
  rw [(Store.kept_release h hs).2, h.2]
  exact Table.length_erase hs

theorem Store.swept_lapse {st : Store} (hk : st.Kept) {now : Nat} (grace : Nat) {b : Bucket} {w : Way} {r : Record}
    (hs : st.slot b w = some r) (h : sweepLapses now (some r) = true) :
    st.Swept (st.write b w r.lapse) now grace b [w] where
  kept := Store.kept_write hk hs _
  slot := by simp [hs, sweptSlot_lapsed grace h]
  other _ _ hother := Store.slot_write_other _ _ (pair_ne_of_not_mem_singleton hother)
  occupancy := by simp [hs, sweepRetires_of_lapses grace h]
  edition := rfl

theorem Store.swept_retire {st : Store} (hk : st.Kept) {now grace : Nat} {b : Bucket} {w : Way} {r : Record}
    (hs : st.slot b w = some r) (h : sweepRetires now grace (some r) = true) :
    st.Swept (st.release b w) now grace b [w] where
  kept := Store.kept_release hk hs
  slot := by simp [hs, sweptSlot_retired h, Store.slot_release hk.1]
  other _ _ hother := Store.slot_release_other _ (pair_ne_of_not_mem_singleton hother)
  occupancy := by simpa only [List.countP_singleton, hs, h, if_true] using Store.occupancy_release hk hs
  edition := rfl

theorem Store.swept_leave {st : Store} (hk : st.Kept) {now grace : Nat} {b : Bucket} {w : Way}
    (hl : sweepLapses now (st.slot b w) = false) (hr : sweepRetires now grace (st.slot b w) = false) :
    st.Swept st now grace b [w] where
  kept := hk
  slot := by simp [sweptSlot_left hl hr]
  other _ _ _ := rfl
  occupancy := by simp [hr]
  edition := rfl

/-- A way other than the one swept still holds what it held, so the judgements of the other ways count the same. -/
theorem Store.Swept.countP_eq {st st' : Store} {now grace : Nat} {b : Bucket} {w : Way} {l : List Way}
    (h : st.Swept st' now grace b [w]) (hw : w ∉ l) (p : Option Record → Bool) :
    l.countP (fun v => p (st'.slot b v)) = l.countP fun v => p (st.slot b v) :=
  List.countP_congr fun v hv => by rw [h.other b v fun _ hvw => hw (List.mem_singleton.1 hvw ▸ hv)]

/-- One way after another: a way not swept yet still holds what it held when the turn began. -/
theorem Store.Swept.cons {st st' st'' : Store} {now grace : Nat} {b : Bucket} {w : Way} {l : List Way} (hw : w ∉ l)
    (h : st.Swept st' now grace b [w]) (hl : st'.Swept st'' now grace b l) : st.Swept st'' now grace b (w :: l) := by
  refine ⟨hl.kept, fun v hv => ?_, fun b' v hv => ?_, ?_, hl.edition.trans h.edition⟩
  · rcases List.mem_cons.1 hv with rfl | hv
    · rw [hl.other b v fun _ => hw, h.slot v (List.mem_singleton_self v)]
    · rw [hl.slot v hv, h.other b v fun _ hvw => hw (List.mem_singleton.1 hvw ▸ hv)]
  · rw [hl.other b' v fun hb hmem => hv hb (List.mem_cons_of_mem _ hmem),
      h.other b' v fun hb hmem => hv hb (List.mem_singleton.1 hmem ▸ List.mem_cons_self)]
  · have hone := h.occupancy
    have hrest := hl.occupancy
    rw [List.countP_singleton] at hone
    rw [h.countP_eq hw (sweepRetires now grace)] at hrest
    rw [List.countP_cons]
    omega

/-- The sweep of one way, by what the way holds: it is lapsed, retired or left (R165). -/
theorem State.sweepWay_spec {s : State} (hk : s.StoreKept) (b : Bucket) (w : Way) :
    ∃ st, s.store.Swept st s.now s.settings.timers.retireGrace b [w]
      ∧ s.sweepWay b w = s.sweptTo st (if sweepLapses s.now (s.store.slot b w) then 1 else 0)
          (if sweepRetires s.now s.settings.timers.retireGrace (s.store.slot b w) then 1 else 0) := by
  rw [State.storeKept_iff] at hk
  cases hl : sweepLapses s.now (s.store.slot b w) with
  | true =>
    obtain ⟨r, hs⟩ := exists_of_sweepLapses hl
    rw [hs] at hl
    refine ⟨_, Store.swept_lapse hk _ hs hl, ?_⟩
    simp [State.sweepWay_lapses hs hl, hs, sweepRetires_of_lapses _ hl]
  | false =>
    cases hr : sweepRetires s.now s.settings.timers.retireGrace (s.store.slot b w) with
    | true =>
      obtain ⟨r, hs⟩ := exists_of_sweepRetires hr
      rw [hs] at hr
      refine ⟨_, Store.swept_retire hk hs hr, ?_⟩
      simp [State.sweepWay_retires hs hr]
    | false =>
      exact ⟨_, Store.swept_leave hk hl hr, State.sweepWay_leaves hl hr⟩

/-- The sweep of different ways, one after another: each is judged by what it held before all of them (R165). -/
theorem State.foldl_sweepWay (b : Bucket) {l : List Way} (hl : l.Nodup) {s : State} (hk : s.StoreKept) :
    ∃ st, s.store.Swept st s.now s.settings.timers.retireGrace b l
      ∧ l.foldl (State.sweepWay b) s
          = s.sweptTo st (l.countP fun w => sweepLapses s.now (s.store.slot b w))
              (l.countP fun w => sweepRetires s.now s.settings.timers.retireGrace (s.store.slot b w)) := by
  induction l generalizing s with
  | nil => exact ⟨s.store, .refl hk _ _ b, rfl⟩
  | cons w l ih =>
    obtain ⟨hw, hl⟩ := List.nodup_cons.1 hl
    obtain ⟨st, hst, heq⟩ := s.sweepWay_spec hk b w
    obtain ⟨st', hst', heq'⟩ := ih hl (s := s.sweepWay b w) (by rw [heq]; exact hst.kept)
    rw [heq] at hst' heq'
    refine ⟨st', hst.cons hw hst', ?_⟩
    rw [List.foldl_cons, heq, heq']
    have hlapsed := hst.countP_eq hw (sweepLapses s.now)
    have hretired := hst.countP_eq hw (sweepRetires s.now s.settings.timers.retireGrace)
    change State.sweptTo _ st' (l.countP fun v => sweepLapses s.now (st.slot b v))
      (l.countP fun v => sweepRetires s.now s.settings.timers.retireGrace (st.slot b v)) = _
    simp only [hlapsed, hretired, List.countP_cons, State.sweptTo, Nat.add_assoc, Nat.add_comm]

/-! ### The walk and the end of the pass -/

@[simp] theorem State.advanceSweep_store (s : State) (b : Bucket) : (s.advanceSweep b).store = s.store := by
  unfold State.advanceSweep
  split <;> rfl

/-- Below the last bucket the pointer and the next bucket's request go on (R164). -/
theorem State.advanceSweep_next (s : State) {b next : Bucket} (h : next.val = b.val + 1) :
    s.advanceSweep b = { s with sweeper := { s.sweeper with pointer := next } }.queueSweep next := by
  have hlt : b.val + 1 < 4096 := h ▸ next.isLt
  obtain rfl : next = ⟨b.val + 1, hlt⟩ := Fin.ext h
  exact dif_pos hlt

/-- After the last bucket the pass ends (R167). -/
theorem State.advanceSweep_last (s : State) {b : Bucket} (h : b.val = 4095) : s.advanceSweep b = s.endPass :=
  dif_neg (by omega)

theorem State.endPass_eq (s : State) :
    s.endPass
      = { s with
          sweeper :=
            { state := .idle, pointer := 0
              timer :=
                if s.settings.timers.sweepInterval = 0 then none else some (s.settings.timers.sweepInterval * 60000)
              passLapsed := s.sweeper.passLapsed, passRetired := s.sweeper.passRetired
              lastLapsed := s.sweeper.passLapsed, lastRetired := s.sweeper.passRetired }
          attention := { s.attention with pending := s.attention.pending ||| 16#8 } } := by
  simp only [State.endPass, State.raise, Attention.raise, Source.mask_sweepDone, intervalTimer, Config.minute]

/-- The ways that a sweep turn judges: all while the clock is RUNNING, none otherwise (R165). -/
def State.judgedWays (s : State) : List Way := if s.clock.state = .running then ways else []

theorem State.judgedWays_nodup (s : State) : s.judgedWays.Nodup := by
  unfold State.judgedWays
  split <;> decide

theorem State.mem_judgedWays (s : State) (w : Way) : w ∈ s.judgedWays ↔ (s.clock.state == .running) = true := by
  have hw : w ∈ ways := by revert w; decide
  by_cases h : s.clock.state = .running <;> simp [State.judgedWays, h, hw]

/-- Counting among the judged ways is counting among all four, with the clock RUNNING as one more condition. -/
theorem State.countP_judgedWays (s : State) (p : Way → Bool) :
    s.judgedWays.countP p = ways.countP fun w => s.clock.state == .running && p w := by
  unfold State.judgedWays
  split_ifs with h
  · simp [h]
  · have hstopped : (s.clock.state == .running) = false := beq_false_of_ne h
    simp [hstopped]

theorem State.sweepTurn_eq (s : State) (b : Bucket) :
    s.sweepTurn b = (s.judgedWays.foldl (State.sweepWay b) s).advanceSweep b := by
  unfold State.sweepTurn State.judgedWays
  split <;> rfl

/-- Settles O26: the turn sweeps the judged ways one after another, then walks on or ends the pass. -/
theorem sweepTurnLapsesAndRetires : Obligations.SweepTurnLapsesAndRetires := by
  intro s n b hk hserves u now grace works lapses retires lapsed retired
  obtain ⟨st, hst, hfold⟩ := State.foldl_sweepWay b u.judgedWays_nodup (s := u) hk
  have hjudged : ∀ w, w ∈ u.judgedWays ↔ works = true := u.mem_judgedWays
  rw [State.countP_judgedWays, State.countP_judgedWays] at hfold
  have hcount := hst.occupancy
  rw [State.countP_judgedWays] at hcount
  have hstore : (u.sweepTurn b).store = st := by
    rw [State.sweepTurn_eq, hfold, State.advanceSweep_store]
    rfl
  refine ⟨u.sweepTurn b, exec_bankTurn_sweep hserves, ?_⟩
  rw [hstore]
  refine ⟨fun w hw => ?_, fun w r x hw hs hx => ?_, fun w hl hr => ?_, fun b' w hb => ?_, hcount, hst.edition,
    fun next hnext => ?_, fun hlast => ?_⟩
  · obtain ⟨hworks, hw⟩ := Bool.and_eq_true_iff.1 hw
    exact (hst.slot w ((hjudged w).2 hworks)).trans (sweptSlot_retired hw)
  · obtain ⟨hworks, hw⟩ := Bool.and_eq_true_iff.1 hw
    rw [hs] at hw
    rw [hst.slot w ((hjudged w).2 hworks), ← Record.lapse_eq hx, ← sweptSlot_lapsed grace hw]
    exact congrArg _ hs
  · by_cases hworks : works = true
    · simp only [lapses, retires, hworks, Bool.true_and] at hl hr
      exact (hst.slot w ((hjudged w).2 hworks)).trans (sweptSlot_left hl hr)
    · exact hst.other b w fun _ hmem => hworks ((hjudged w).1 hmem)
  · exact hst.other b' w fun h => absurd h hb
  · rw [State.sweepTurn_eq, hfold, State.advanceSweep_next _ hnext]
    rfl
  · rw [State.sweepTurn_eq, hfold, State.advanceSweep_last _ hlast, State.endPass_eq]
    rfl

end Sys2Proof.Machine

/-! ## READ STATUS (R175) -/

namespace Sys2Proof.Machine

/-- A command without arguments ends at once where its body is the effect stated (R172). -/
theorem endsAtOnce_of_plainCommand {make : Fall → List Byte → Instr} {effect : State → State}
    (hexec : ∀ fell args s, exec (make fell args) s = s.plainCommand fell args effect) :
    EndsAtOnce make (fun _ : Unit => []) (fun _ => True) (fun _ => effect) := by
  intro fell s hs
  refine ⟨fun _ _ => ?_, fun args hargs => ?_⟩
  · rw [hexec, State.plainCommand, State.command_ready hs, if_pos rfl]
  · rw [hexec, State.plainCommand, State.command_ready hs, if_neg (hargs () trivial), State.finishPlain_eq]

theorem exec_readStatus (fell : Fall) (args : List Byte) (s : State) :
    exec (.readStatus fell args) s = s.plainCommand fell args fun t => t.ended .ok t.statusPicture := by
  change execReadStatus fell args s = _
  simp only [execReadStatus, State.finish_eq]

/-! ### The items in the order of R195 -/

/-- What is read from the elements of a vector, in the order of their indices. -/
theorem vector_map_toList_eq_map_finRange {α β : Type} {n : Nat} (f : α → β) (v : Vector α n) :
    v.toList.map f = (List.finRange n).map fun i => f v[i] := by
  apply List.ext_getElem <;> simp

/-- What is read from the drop records, link by link and within a link drop by drop. -/
theorem State.map_allDrops {β : Type} (s : State) (f : Drop → β) :
    s.allDrops.map f = (List.finRange 4).flatMap fun l => (List.finRange 28).map fun d => f (s.drop l d) := by
  simp only [State.allDrops, State.drop, List.flatMap_def, List.map_flatten, List.map_map, Function.comp_def,
    vector_map_toList_eq_map_finRange]

theorem State.allDrops_length (s : State) : s.allDrops.length = 112 := by
  simp [State.allDrops, List.length_flatMap]

theorem State.entriesInUse_eq (s : State) : s.entriesInUse = (s.entries.toList.filter Option.isSome).length :=
  List.countP_eq_length_filter

/-- 16 bytes of registers and clock, 112 drops, 16 lobbies, 1 byte of dispatch state, 12 groups, 4 bytes of dispatch counts, 7
bytes of the sweeper and 3 of attention. -/
theorem State.statusPicture_length (s : State) : s.statusPicture.length = 171 := by
  unfold State.statusPicture
  simp only [List.length_append, List.length_map, be_length, List.length_cons, List.length_nil,
    State.allDrops_length, Vector.length_toList]

/-- Settles O37: READ STATUS is a command without arguments that ends with the picture of the state after the taking, whose drops,
lobbies and groups stand in ascending order. -/
theorem readStatusReturnsThePicture : Obligations.ReadStatusReturnsThePicture := by
  refine ⟨endsAtOnce_of_plainCommand fun fell args s => ?_, State.statusPicture_length⟩
  rw [exec_readStatus]
  refine congrArg (s.plainCommand fell args) (funext fun t => congrArg (t.ended .ok) ?_)
  unfold State.statusPicture
  simp only [State.entriesInUse_eq, State.map_allDrops, vector_map_toList_eq_map_finRange, Drop.status, yesNo]

end Sys2Proof.Machine

/-! ## Which blocks a command writes -/

namespace Sys2Proof.Machine

/-- The blocks that the invariants speak of. A bank counts by its three parts, the clock by its state and readings, a drop record by its lobby and state, the settings by the
trip lifetime, the dispatch link by its transmit queue, the port by whether its engine is WORKING. -/
inductive Block where
  | store
  | lookup
  | upkeep
  | patterns
  | clock
  | live
  | lifetime
  | entries
  | drops
  | service
  | queue
  | trips
  | engine
deriving DecidableEq

/-- What a lobby's service state depends on in a link (R123). -/
def Link.standing (k : Link) : Vector (Fin 16 × DropState) 28 := k.drops.map fun d => (d.lobby, d.state)

/-- The clock's state and readings (R39); its tick source and divider are left out. -/
def Clock.reading (c : Clock) : ClockState × Nat × Nat × Nat × Nat := (c.state, c.day, c.weekday, c.minute, c.second)

/-- A block stands in `t` as it stood in `s`. -/
def Block.Same (s t : State) : Block → Prop
  | .store => t.store = s.store
  | .lookup => t.banks.map Bank.lookup = s.banks.map Bank.lookup
  | .upkeep => t.banks.map Bank.upkeep = s.banks.map Bank.upkeep
  | .patterns => (t.banks.map fun b => (b.pattern, b.staged)) = s.banks.map fun b => (b.pattern, b.staged)
  | .clock => t.clock.reading = s.clock.reading
  | .live => t.live = s.live
  | .lifetime => t.settings.timers.tripLifetime = s.settings.timers.tripLifetime
  | .entries => t.entries = s.entries
  | .drops => t.links.map Link.standing = s.links.map Link.standing
  | .service => t.service = s.service
  | .queue => t.dispatch.queue = s.dispatch.queue
  | .trips => t.trips = s.trips
  | .engine => t.port.engine = .working ↔ s.port.engine = .working

/-- No block but those listed differs. -/
def SameBut (bs : List Block) (s t : State) : Prop := ∀ b, b ∉ bs → b.Same s t

section SameBut
variable {bs bs' : List Block} {s t u : State}

theorem SameBut.refl (s : State) : SameBut bs s s := fun b _ => by
  cases b with
  | engine => exact Iff.rfl
  | _ => rfl

theorem SameBut.trans (h : SameBut bs s t) (h' : SameBut bs t u) : SameBut bs s u := fun b hb => by
  have h1 := h b hb
  have h2 := h' b hb
  cases b with
  | engine => exact Iff.trans h2 h1
  | _ => exact Eq.trans h2 h1

theorem SameBut.mono (h : SameBut bs s t) (hbs : bs ⊆ bs') : SameBut bs' s t := fun b hb => h b fun hm => hb (hbs hm)

/-- One more block may differ after a write to it. -/
theorem SameBut.then (h : SameBut bs s t) (h' : SameBut bs' t u) (hbs : bs' ⊆ bs) : SameBut bs s u :=
  h.trans (h'.mono hbs)

/-! ### The shared operations -/

theorem Vector.map_set_same {α β : Type} {n : Nat} (f : α → β) (v : Vector α n) (i : Fin n) {x : α} (h : f x = f v[i]) :
    (v.set i x).map f = v.map f := by
  ext j hj
  by_cases hij : i.val = j
  · subst hij; simpa using h
  · simp [Vector.getElem_set_ne, hij]

/-- The end of a command outside WORKING writes no block. -/
theorem SameBut.finish {c : ResultCode} {bytes : List Byte} (h : SameBut bs s t) (ht : t.port.engine ≠ .working) :
    SameBut bs s (t.finish c bytes) :=
  h.trans fun b _ => by
    cases b with
    | engine => exact iff_of_false (by simp [State.finish]) ht
    | _ => rfl

theorem sameBut_ended (s : State) (c : ResultCode) (bytes : List Byte) : SameBut [.engine] s (s.ended c bytes) :=
  fun b hb => by
    cases b with
    | engine => simp at hb
    | _ => rfl

theorem sameBut_setEntry (s : State) (e : Fin 64) (x : Option Entry) : SameBut [.entries] s (s.setEntry e x) :=
  fun b hb => by
    cases b with
    | entries => simp at hb
    | engine => exact Iff.rfl
    | _ => rfl

/-- The record of a drop that keeps its lobby and state. -/
theorem sameBut_setDrop {s : State} {l : Fin 4} {d : Fin 28} {x : Drop} (hl : x.lobby = (s.drop l d).lobby)
    (hs : x.state = (s.drop l d).state) : SameBut [] s (s.setDrop l d x) := fun b _ => by
  cases b with
  | drops => exact Vector.map_set_same _ _ _ (Vector.map_set_same _ _ _ (Prod.ext hl hs))
  | engine => exact Iff.rfl
  | _ => rfl

theorem sameBut_setDrop_any (s : State) (l : Fin 4) (d : Fin 28) (x : Drop) : SameBut [.drops] s (s.setDrop l d x) :=
  fun b hb => by
    cases b with
    | drops => simp at hb
    | engine => exact Iff.rfl
    | _ => rfl

/-- What a link's record holds besides its drops' lobbies and states. -/
theorem sameBut_setLink (s : State) {l : Fin 4} {k : Link} (h : k.drops = s.links[l].drops) :
    SameBut [] s { s with links := s.links.set l k } := fun b _ => by
  cases b with
  | drops => exact Vector.map_set_same _ _ _ (by simp only [Link.standing, h])
  | engine => exact Iff.rfl
  | _ => rfl

theorem sameBut_queueLookup (s : State) (r : LookupRequest) : SameBut [.lookup] s (s.queueLookup r) := fun b hb => by
  cases b with
  | lookup => simp at hb
  | upkeep => exact Vector.map_set_same _ _ _ rfl
  | patterns => exact Vector.map_set_same _ _ _ rfl
  | engine => exact Iff.rfl
  | _ => rfl

theorem sameBut_queueUpkeep (s : State) (r : UpkeepRequest) : SameBut [.upkeep] s (s.queueUpkeep r) := fun b hb => by
  cases b with
  | upkeep => simp at hb
  | lookup => exact Vector.map_set_same _ _ _ rfl
  | patterns => exact Vector.map_set_same _ _ _ rfl
  | engine => exact Iff.rfl
  | _ => rfl

theorem sameBut_queueSweep (s : State) (q : Bucket) : SameBut [] s (s.queueSweep q) := fun b _ => by
  cases b with
  | lookup => exact Vector.map_set_same _ _ _ rfl
  | upkeep => exact Vector.map_set_same _ _ _ rfl
  | patterns => exact Vector.map_set_same _ _ _ rfl
  | engine => exact Iff.rfl
  | _ => rfl

/-- A write of the dispatch link's record. -/
theorem sameBut_dispatch (s : State) (d : DispatchLink) : SameBut [.queue] s { s with dispatch := d } := fun b hb => by
  cases b with
  | queue => simp at hb
  | engine => exact Iff.rfl
  | _ => rfl

theorem sameBut_clock (s : State) (c : Clock) : SameBut [.clock] s { s with clock := c } := fun b hb => by
  cases b with
  | clock => simp at hb
  | engine => exact Iff.rfl
  | _ => rfl

theorem sameBut_trips (s : State) (l : List Trip) : SameBut [.trips] s { s with trips := l } := fun b hb => by
  cases b with
  | trips => simp at hb
  | engine => exact Iff.rfl
  | _ => rfl

theorem sameBut_store (s : State) (st : Store) : SameBut [.store] s { s with store := st } := fun b hb => by
  cases b with
  | store => simp at hb
  | engine => exact Iff.rfl
  | _ => rfl

/-- A reply posted to a transaction leaves lobby and state of the drop. -/
theorem sameBut_post (s : State) (e : Fin 64) (en : Entry) (r : Reply) : SameBut [] s (s.post e en r) := by
  unfold State.post
  split
  · split
    · exact sameBut_setDrop rfl rfl
    · exact .refl s
  · exact .refl s

theorem sameBut_answerAndFree (s : State) (e : Fin 64) (en : Entry) (r : Reply) :
    SameBut [.entries] s (s.answerAndFree e en r) :=
  ((sameBut_post s e en r).mono (List.nil_subset _)).trans (sameBut_setEntry _ e none)

theorem sameBut_recomputeLobby (s : State) (n : Fin 16) : SameBut [.service, .queue] s (s.recomputeLobby n) :=
  fun b hb => by
    unfold State.recomputeLobby
    cases b with
    | service => simp at hb
    | queue => simp at hb
    | engine => split_ifs <;> exact Iff.rfl
    | _ => split_ifs <;> rfl

theorem SameBut.foldl {α : Type} {g : State → α → State} (h : ∀ s a, SameBut bs s (g s a)) (l : List α) (s : State) :
    SameBut bs s (l.foldl g s) := by
  induction l generalizing s with
  | nil => exact .refl s
  | cons a l ih => exact (h s a).trans (ih (g s a))

theorem sameBut_recompute (s : State) : SameBut [.service, .queue] s s.recompute :=
  SameBut.foldl sameBut_recomputeLobby _ s

theorem sameBut_hear (s : State) : SameBut [.queue] s s.heard := by
  unfold State.heard
  split
  · exact sameBut_dispatch s _
  · exact sameBut_dispatch s _

theorem sameBut_startReversal (s : State) (e : Fin 64) (en : Entry) :
    SameBut [.lookup, .entries] s (s.startReversal e en) := by
  unfold State.startReversal
  split
  · exact ((sameBut_setEntry s e _).mono (by simp)).then (sameBut_queueLookup _ _) (by simp)
  · exact (sameBut_setEntry s e none).mono (by simp)

theorem sameBut_failOffer (s : State) (e : Fin 64) (en : Entry) (c : ReplyCode) :
    SameBut [.lookup, .entries] s (s.failOffer e en c) :=
  ((sameBut_post s e en _).mono (by simp)).trans (sameBut_startReversal _ e en)

/-! ### Commands of the port -/

/-- A COMMAND frame writes no more than its body does outside WORKING: a refusal stays in WORKING, and a taking leaves it. -/
theorem State.command_sameBut {fell : Fall} {args : List Byte} {body : State → State}
    (h : s.command fell args body = .next t) (hbody : ∀ u, u.port.engine ≠ .working → SameBut bs u (body u)) :
    SameBut bs s t := by
  rcases s.command_cases fell args body with ⟨-, hc⟩ | ⟨-, hw, hc⟩ | ⟨⟨-, hw⟩, hc⟩ <;>
    (rw [hc] at h; cases h)
  · exact .refl s
  · exact fun b _ => by
      cases b with
      | engine => exact Iff.rfl
      | _ => rfl
  · refine SameBut.trans (t := s.taken fell args.length) (fun b _ => ?_) (hbody _ (by simp [State.taken]))
    cases b with
    | engine => exact iff_of_false (by simp [State.taken]) hw
    | _ => rfl

theorem State.plainCommand_sameBut {fell : Fall} {args : List Byte} {body : State → State}
    (h : s.plainCommand fell args body = .next t) (hbody : ∀ u, u.port.engine ≠ .working → SameBut bs u (body u)) :
    SameBut bs s t :=
  State.command_sameBut h fun u hu => by
    split
    · exact hbody u hu
    · exact .finish (.refl u) hu

/-- A store command queues a phase and makes the engine WORKING. -/
theorem State.storeCommand_sameBut {fell : Fall} {args : List Byte} {c : Option StoreCommand}
    (h : s.storeCommand fell args c = .next t) : SameBut [.upkeep, .engine] s t :=
  State.command_sameBut h fun u hu => by
    split
    · exact .finish (.refl u) hu
    · refine SameBut.then (fun b hb => ?_) (sameBut_queueUpkeep _ _) (by simp)
      cases b with
      | engine => simp at hb
      | _ => rfl

section Commands
variable {fell : Fall} {args : List Byte}

theorem execUnknownCommand_sameBut {code : Byte} (h : execUnknownCommand fell code args s = .next t) : SameBut [] s t := by
  unfold execUnknownCommand at h
  split at h
  · cases h
  · exact State.command_sameBut h fun u hu => .finish (.refl u) hu

theorem execSetClock_sameBut (h : execSetClock fell args s = .next t) : SameBut [.clock] s t :=
  State.command_sameBut h fun u hu => by
    split
    · exact .finish (sameBut_clock u _) hu
    · exact .finish (.refl u) hu

theorem execSetTickSource_sameBut (h : execSetTickSource fell args s = .next t) : SameBut [] s t :=
  State.command_sameBut h fun u hu => by
    repeat' split
    all_goals exact .finish (.refl u) hu

theorem execPutHolidays_sameBut (h : execPutHolidays fell args s = .next t) : SameBut [] s t :=
  State.command_sameBut h fun u hu => by
    repeat' split
    all_goals exact .finish (.refl u) hu

theorem execPutProfile_sameBut (h : execPutProfile fell args s = .next t) : SameBut [] s t :=
  State.command_sameBut h fun u hu => by split <;> exact .finish (.refl u) hu

theorem execGetProfile_sameBut (h : execGetProfile fell args s = .next t) : SameBut [] s t :=
  State.command_sameBut h fun u hu => by
    split <;> exact .finish (.refl u) hu

theorem sameBut_staged (s : State) (m : FloorMap) : SameBut [] s { s with staged := m } := .refl s

theorem execSetFloor_sameBut (h : execSetFloor fell args s = .next t) : SameBut [] s t :=
  State.command_sameBut h fun u hu => by
    split
    · split
      · exact .finish (sameBut_staged u _) hu
      · exact .finish (.refl u) hu
    · split
      · exact .finish (.refl u) hu
      · split
        · exact .finish (sameBut_staged u _) hu
        · exact .finish (.refl u) hu
    · exact .finish (.refl u) hu

theorem execSetGroup_sameBut (h : execSetGroup fell args s = .next t) : SameBut [] s t :=
  State.command_sameBut h fun u hu => by
    repeat' split
    all_goals exact .finish (.refl u) hu

theorem execSetZone_sameBut (h : execSetZone fell args s = .next t) : SameBut [] s t :=
  State.command_sameBut h fun u hu => by
    repeat' split
    all_goals exact .finish (.refl u) hu

theorem execSetTransfer_sameBut (h : execSetTransfer fell args s = .next t) : SameBut [] s t :=
  State.command_sameBut h fun u hu => by
    repeat' split
    all_goals exact .finish (.refl u) hu

theorem execCommitMap_sameBut (h : execCommitMap fell args s = .next t) : SameBut [.live] s t :=
  State.plainCommand_sameBut h fun u hu => by
    split
    · refine .finish (fun b hb => ?_) hu
      cases b with
      | live => simp at hb
      | engine => exact Iff.rfl
      | _ => rfl
    · exact .finish (.refl u) hu

theorem execDiscardMap_sameBut (h : execDiscardMap fell args s = .next t) : SameBut [] s t :=
  State.plainCommand_sameBut h fun u hu => .finish (.refl u) hu

theorem execReadMap_sameBut (h : execReadMap fell args s = .next t) : SameBut [] s t :=
  State.command_sameBut h fun u hu => by
    repeat' split
    all_goals exact .finish (.refl u) hu

theorem execSetLobby_sameBut (h : execSetLobby fell args s = .next t) : SameBut [] s t :=
  State.command_sameBut h fun u hu => by
    repeat' split
    all_goals exact .finish (.refl u) hu

theorem execSetSites_sameBut (h : execSetSites fell args s = .next t) : SameBut [] s t :=
  State.command_sameBut h fun u hu => by
    repeat' split
    all_goals exact .finish (.refl u) hu

theorem execSetMode_sameBut (h : execSetMode fell args s = .next t) : SameBut [] s t :=
  State.command_sameBut h fun u hu => by
    repeat' split
    all_goals exact .finish (.refl u) hu

theorem execSetClosures_sameBut (h : execSetClosures fell args s = .next t) : SameBut [] s t :=
  State.command_sameBut h fun u hu => by split <;> exact .finish (.refl u) hu

theorem execSetTimers_sameBut (h : execSetTimers fell args s = .next t) : SameBut [.lifetime] s t :=
  State.command_sameBut h fun u hu => by
    split
    · refine .finish (fun b hb => ?_) hu
      cases b with
      | lifetime => simp at hb
      | engine => exact Iff.rfl
      | _ => rfl
    · exact .finish (.refl u) hu

theorem sameBut_startPass (s : State) : SameBut [] s s.startPass :=
  SameBut.trans (t := { s with
    sweeper := { s.sweeper with state := .passing, pointer := 0, passLapsed := 0, passRetired := 0 } })
    (.refl s) (sameBut_queueSweep _ 0)

theorem execSweepNow_sameBut (h : execSweepNow fell args s = .next t) : SameBut [] s t :=
  State.plainCommand_sameBut h fun u hu => by
    split
    · exact .finish (.refl u) hu
    · split
      · exact .finish (.refl u) hu
      · exact .finish (sameBut_startPass u) hu

theorem execReadStatus_sameBut (h : execReadStatus fell args s = .next t) : SameBut [] s t :=
  State.plainCommand_sameBut h fun u hu => .finish (.refl u) hu

theorem execSetAttention_sameBut (h : execSetAttention fell args s = .next t) : SameBut [] s t :=
  State.command_sameBut h fun u hu => by
    repeat' split
    all_goals exact .finish (.refl u) hu

theorem execClearAttention_sameBut (h : execClearAttention fell args s = .next t) : SameBut [] s t :=
  State.command_sameBut h fun u hu => by split <;> exact .finish (.refl u) hu

theorem execSetPattern_sameBut (h : execSetPattern fell args s = .next t) : SameBut [.patterns] s t :=
  State.command_sameBut h fun u hu => by
    split
    · exact .finish (.refl u) hu
    · split
      · split
        · refine .finish (fun b hb => ?_) hu
          cases b with
          | patterns => simp at hb
          | lookup => exact Vector.map_set_same _ _ _ rfl
          | upkeep => exact Vector.map_set_same _ _ _ rfl
          | engine => exact Iff.rfl
          | _ => rfl
        · exact .finish (.refl u) hu
      · exact .finish (.refl u) hu

theorem execReadPattern_sameBut (h : execReadPattern fell args s = .next t) : SameBut [] s t :=
  State.command_sameBut h fun u hu => by
    repeat' split
    all_goals exact .finish (.refl u) hu

theorem sameBut_links (s : State) (v : Vector Link 4) : SameBut [.drops] s { s with links := v } := fun b hb => by
  cases b with
  | drops => simp at hb
  | engine => exact Iff.rfl
  | _ => rfl

theorem sameBut_writeDrop (s : State) (l : Fin 4) (d : Fin 28) (enabled : Bool) (lobby : Fin 16) :
    SameBut [.drops, .service, .queue] s (s.writeDrop l d enabled lobby) :=
  (((sameBut_setDrop_any s l d _).then (sameBut_links _ _) (by simp)).mono (by simp)).then (sameBut_recompute _) (by simp)

theorem execSetDrop_sameBut (h : execSetDrop fell args s = .next t) : SameBut [.drops, .service, .queue] s t :=
  State.command_sameBut h fun u hu => by
    split
    · split
      · exact .finish (sameBut_writeDrop u _ _ _ _) (by simpa [State.writeDrop] using hu)
      · exact .finish (.refl u) hu
    · exact .finish (.refl u) hu

theorem State.modeCommand_sameBut {m : AnswerMode} (h : s.modeCommand fell args m = .next t) : SameBut [] s t :=
  State.command_sameBut h fun u hu => by
    split
    · split
      · exact .finish (sameBut_setDrop rfl rfl) hu
      · exact .finish (.refl u) hu
    · exact .finish (.refl u) hu

theorem execSetLink_sameBut (h : execSetLink fell args s = .next t) : SameBut [.drops, .service, .queue] s t :=
  State.command_sameBut h fun u hu => by
    split
    · split
      · refine .finish (((sameBut_links u _).mono (by simp)).then (sameBut_recompute _) (by simp)) ?_
        simpa using hu
      · exact .finish (.refl u) hu
    · exact .finish (.refl u) hu

theorem execWatch_sameBut (h : execWatch fell args s = .next t) : SameBut [] s t :=
  State.command_sameBut h fun u hu => by
    repeat' split
    all_goals exact .finish (.refl u) hu

theorem execReadWatch_sameBut (h : execReadWatch fell args s = .next t) : SameBut [] s t :=
  State.plainCommand_sameBut h fun u hu => .finish (.refl u) hu

end Commands

end SameBut

end Sys2Proof.Machine

/-! ### The turns of a bank -/

namespace Sys2Proof.Machine

section Turns
variable {bs : List Block} {s t : State}

theorem sameBut_finish (s : State) (c : ResultCode) (bytes : List Byte) : SameBut [.engine] s (s.finish c bytes) :=
  s.finish_eq c bytes ▸ sameBut_ended s c bytes

theorem sameBut_checkNearFull (s : State) : SameBut [] s s.checkNearFull := by
  unfold State.checkNearFull
  split <;> exact .refl s

theorem sameBut_putReplace (s : State) (c : Credential) (b : Bucket) (w : Way) (old : Record) :
    SameBut [.store, .engine] s (s.putReplace c b w old) :=
  ((sameBut_store s _).mono (by simp)).then (sameBut_finish _ _ _) (by simp)

theorem sameBut_putPlace (s : State) (c : Credential) (b : Bucket) (w : Way) :
    SameBut [.store, .engine] s (s.putPlace c b w) :=
  ((sameBut_store s _).mono (by simp)).then
    (((sameBut_checkNearFull _).mono (by simp)).trans (sameBut_finish _ _ _)) (by simp)

theorem sameBut_nextPhase (s : State) (c : StoreCommand) (b : Bucket) (p : Phase) :
    SameBut [.upkeep] s (s.nextPhase c b p) :=
  sameBut_queueUpkeep s _

theorem sameBut_putPhase (s : State) (c : Credential) (b : Bucket) (p : Phase) :
    SameBut [.store, .upkeep, .engine] s (s.putPhase c b p) := by
  cases p with
  | first =>
    simp only [State.putPhase]
    split
    · exact (sameBut_putReplace s _ _ _ _).mono (by simp)
    · exact (sameBut_nextPhase s _ _ _).mono (by simp)
  | second =>
    simp only [State.putPhase]
    split
    · exact (sameBut_putReplace s _ _ _ _).mono (by simp)
    · split
      · exact (sameBut_putPlace s _ _ _).mono (by simp)
      · exact (sameBut_nextPhase s _ _ _).mono (by simp)
  | third =>
    simp only [State.putPhase]
    split
    · exact (sameBut_putPlace s _ _ _).mono (by simp)
    · exact (sameBut_finish s _ _).mono (by simp)

theorem sameBut_searchPhase {c : StoreCommand} {k : Key} {b : Bucket} {p : Phase} {act : State → Way → Record → State}
    {absent : State → State} (hbs : Block.upkeep ∈ bs) (hact : ∀ w r, SameBut bs s (act s w r))
    (habsent : SameBut bs s (absent s)) : SameBut bs s (s.searchPhase c k b p act absent) := by
  unfold State.searchPhase
  split
  · exact hact _ _
  · split
    · exact (sameBut_nextPhase s _ _ _).mono (by simpa using hbs)
    · exact habsent

theorem sameBut_notFound (s : State) : SameBut [.engine] s s.notFound := sameBut_finish s _ _

theorem sameBut_setStateFound (s : State) (active : Bool) (b : Bucket) (w : Way) (r : Record) :
    SameBut [.store, .engine] s (State.setStateFound active b s w r) := by
  unfold State.setStateFound
  split
  · exact (sameBut_finish s _ _).mono (by simp)
  · split
    · exact (sameBut_finish s _ _).mono (by simp)
    · exact ((sameBut_store s _).mono (by simp)).then (sameBut_finish _ _ _) (by simp)

theorem sameBut_replenishFound (s : State) (count : Option Nat) (b : Bucket) (w : Way) (r : Record) :
    SameBut [.store, .engine] s (State.replenishFound count b s w r) := by
  unfold State.replenishFound
  split
  · exact (sameBut_finish s _ _).mono (by simp)
  · exact ((sameBut_store s _).mono (by simp)).then (sameBut_finish _ _ _) (by simp)

theorem sameBut_dropFound (s : State) (k : Key) (b : Bucket) (w : Way) (r : Record) :
    SameBut [.store, .trips, .engine] s (State.dropFound k b s w r) :=
  (((sameBut_store s _).mono (by simp)).then (sameBut_trips _ _) (by simp)).then (sameBut_finish _ _ _) (by simp)

theorem sameBut_dropAbsent (s : State) (k : Key) : SameBut [.trips, .engine] s (State.dropAbsent k s) :=
  ((sameBut_trips s _).mono (by simp)).then (sameBut_finish _ _ _) (by simp)

/-- What the turn of an UPKEEP request may write. -/
theorem sameBut_upkeepTurn (s : State) (q : UpkeepRequest) :
    SameBut [.store, .upkeep, .trips, .engine] s (s.upkeepTurn q) := by
  unfold State.upkeepTurn
  split
  · exact (sameBut_putPhase s _ _ _).mono (by simp)
  · exact sameBut_searchPhase (by simp) (fun _ _ => (sameBut_finish s _ _).mono (by simp))
      ((sameBut_notFound s).mono (by simp))
  · exact sameBut_searchPhase (by simp) (fun _ _ => (sameBut_dropFound s _ _ _ _).mono (by simp))
      ((sameBut_dropAbsent s _).mono (by simp))
  · exact sameBut_searchPhase (by simp) (fun _ _ => (sameBut_setStateFound s _ _ _ _).mono (by simp))
      ((sameBut_notFound s).mono (by simp))
  · exact sameBut_searchPhase (by simp) (fun _ _ => (sameBut_replenishFound s _ _ _ _).mono (by simp))
      ((sameBut_notFound s).mono (by simp))
  · exact (sameBut_finish s _ _).mono (by simp)

theorem sameBut_makeOffer (s : State) (e : Fin 64) (en : Entry) (r : Record) (route : Route) (cont : Bool) :
    SameBut [.entries, .queue] s (s.makeOffer e en r route cont) :=
  ((sameBut_dispatch s _).mono (by simp)).then (sameBut_setEntry _ e _) (by simp)

theorem sameBut_takeDecision (s : State) (e : Fin 64) (en : Entry) (b : Bucket) (w : Way) (r : Record) :
    SameBut [.store, .entries, .queue] s (s.takeDecision e en b w r) := by
  unfold State.takeDecision
  dsimp only
  split
  · exact ((sameBut_store s _).mono (by simp)).then (sameBut_answerAndFree _ _ _ _) (by simp)
  · exact (sameBut_answerAndFree s _ _ _).mono (by simp)
  · exact ((sameBut_store s _).mono (by simp)).then (sameBut_makeOffer _ _ _ _ _ _) (by simp)

theorem sameBut_probeTurn (s : State) (e : Fin 64) (en : Entry) (b : Bucket) :
    SameBut [.store, .lookup, .entries, .queue] s (s.probeTurn e en b) := by
  unfold State.probeTurn
  split
  · exact (sameBut_takeDecision s _ _ _ _ _).mono (by simp)
  · split
    · split
      · exact (sameBut_answerAndFree s _ _ _).mono (by simp)
      · exact ((sameBut_setEntry s _ _).mono (by simp)).then (sameBut_queueLookup _ _) (by simp)
    · exact (sameBut_answerAndFree s _ _ _).mono (by simp)

/-- What the turn of a LOOKUP request may write. -/
theorem sameBut_lookupTurn (s : State) (q : LookupRequest) :
    SameBut [.store, .lookup, .entries, .queue] s (s.lookupTurn q) := by
  unfold State.lookupTurn
  split
  · exact .refl s
  · split
    · exact sameBut_probeTurn s _ _ _
    · exact ((sameBut_store s _).mono (by simp)).then (sameBut_setEntry _ _ _) (by simp)

theorem sameBut_sweepWay (b : Bucket) (s : State) (w : Way) : SameBut [.store] s (s.sweepWay b w) := by
  unfold State.sweepWay
  split
  · exact .refl s
  · repeat' split
    all_goals first | exact .refl s | exact sameBut_store s _

theorem sameBut_advanceSweep (s : State) (b : Bucket) : SameBut [] s (s.advanceSweep b) := by
  unfold State.advanceSweep
  split
  · exact SameBut.trans (t := { s with sweeper := { s.sweeper with pointer := ⟨b.val + 1, ‹_›⟩ } }) (.refl s)
      (sameBut_queueSweep _ _)
  · exact .refl s

/-- What a SWEEP turn may write. -/
theorem sameBut_sweepTurn (s : State) (b : Bucket) : SameBut [.store] s (s.sweepTurn b) := by
  unfold State.sweepTurn
  split
  · exact (SameBut.foldl (sameBut_sweepWay b) ways s).then (sameBut_advanceSweep _ b) (by simp)
  · exact (sameBut_advanceSweep s b).mono (by simp)

/-- The blocks that a bank's turn may write. -/
def turnBlocks : List Block := [.store, .lookup, .upkeep, .patterns, .entries, .queue, .trips, .engine]

theorem sameBut_serve (s : State) (x : Served) : SameBut turnBlocks s (s.serve x) := by
  cases x with
  | nothing => exact .refl s
  | lookup q => exact (sameBut_lookupTurn s q).mono (by simp [turnBlocks])
  | upkeep q => exact (sameBut_upkeepTurn s q).mono (by simp [turnBlocks])
  | sweep b => exact (sameBut_sweepTurn s b).mono (by simp [turnBlocks])

theorem execBankTurn_sameBut {n : Fin 4} (h : execBankTurn n s = .next t) : SameBut turnBlocks s t := by
  unfold execBankTurn at h
  split at h
  · cases h; exact .refl s
  · cases h
    refine SameBut.trans (t := { s with banks := s.banks.set n (s.banks[n].turn (s.sweeper.state == .passing)).1 })
      (fun b hb => ?_) ?_
    · cases b with
      | lookup | upkeep | patterns => simp [turnBlocks] at hb
      | engine => exact Iff.rfl
      | _ => rfl
    · exact sameBut_serve _ _

end Turns

/-! ### The other events -/

section Events
variable {bs : List Block} {s t : State}

/-- A raised source is in no block. -/
theorem sameBut_raise (s : State) (x : Source) : SameBut [] s (s.raise x) := .refl s

theorem sameBut_tickClock (s : State) : SameBut [.clock] s s.tickClock := by
  unfold State.tickClock
  split
  · split
    · exact (sameBut_clock s _).then (sameBut_raise _ _) (by simp)
    · exact sameBut_clock s _
  · exact .refl s

theorem sameBut_tickTrips (s : State) : SameBut [.trips] s s.tickTrips := by
  unfold State.tickTrips
  split
  · exact .refl s
  · exact sameBut_trips s _

theorem sameBut_tick (s : State) : SameBut [.clock, .trips] s s.tick :=
  ((sameBut_tickClock s).mono (by simp)).then (sameBut_tickTrips _) (by simp)

theorem sameBut_restartDivider (s : State) : SameBut [] s s.restartDivider := by
  unfold State.restartDivider
  split <;> exact .refl s

theorem sameBut_wholeTick (s : State) : SameBut [.clock, .trips] s s.restartDivider.tick :=
  ((sameBut_restartDivider s).mono (by simp)).trans (sameBut_tick _)

theorem execTickEdge_sameBut (h : execTickEdge s = .next t) : SameBut [.clock, .trips] s t := by
  cases h
  split
  · exact .refl s
  · exact sameBut_tick s

theorem execInternalTick_sameBut (h : execInternalTick s = .next t) : SameBut [.clock, .trips] s t := by
  cases h
  split
  · exact .refl s
  · exact sameBut_wholeTick s

theorem execClockEnd_sameBut (h : execClockEnd s = .next t) : SameBut [.clock, .trips] s t := by
  cases h
  split
  · exact sameBut_wholeTick s
  · exact .refl s

theorem execTripExpiry_sameBut (h : execTripExpiry s = .next t) : SameBut [.clock, .trips] s t := by
  cases h
  split
  · exact sameBut_wholeTick s
  · exact .refl s

theorem sameBut_withdrawProbe (s : State) (e : Fin 64) : SameBut [.lookup] s (s.withdrawProbe e) := fun b hb => by
  cases b with
  | lookup => simp at hb
  | upkeep | patterns => simp [Block.Same, State.withdrawProbe, Function.comp_def]
  | engine => exact Iff.rfl
  | _ => rfl

theorem sameBut_holdEntry (s : State) (e : Fin 64) : SameBut [.lookup, .entries] s (s.holdEntry e) := by
  unfold State.holdEntry
  split
  · exact .refl s
  · split
    · exact ((sameBut_withdrawProbe s e).mono (by simp)).then (sameBut_answerAndFree _ _ _ _) (by simp)
    · exact .refl s

theorem execEmgAssert_sameBut (h : execEmgAssert s = .next t) : SameBut [.lookup, .entries] s t := by
  cases h
  split
  · exact .refl s
  · split
    · exact .refl s
    · exact SameBut.trans (t := { s with emg := true }) (.refl s) (SameBut.foldl sameBut_holdEntry _ _)

theorem execFrameError_sameBut {fell : Fall} {bytes : List Byte} (h : execFrameError fell bytes s = .next t) :
    SameBut [] s t := by
  unfold execFrameError at h
  split at h
  · cases h; exact .refl s
  · cases h; split <;> exact .refl s
  · cases h
  · cases h

theorem execResponse_sameBut {fell : Fall} {clocks : Nat} (h : execResponse fell clocks s = .next t) :
    SameBut [] s t := by
  cases h
  split
  · exact .refl s
  · dsimp only
    split
    · rename_i hdone
      refine fun b _ => ?_
      cases b with
      | engine =>
        have hw : s.port.engine ≠ .working := fun hw => by simp [State.engineAtFall, hw] at hdone
        exact iff_of_false (by simp [State.consume]) hw
      | _ => rfl
    · exact .refl s

theorem execSweepIntervalExpiry_sameBut (h : execSweepIntervalExpiry s = .next t) : SameBut [] s t := by
  cases h
  split
  · exact .refl s
  · dsimp only
    split
    · refine SameBut.trans (t := { s with
        sweeper := { s.sweeper with timer := intervalTimer s.settings.timers.sweepInterval } }) (.refl s)
        (sameBut_startPass _)
    · exact .refl s

theorem sameBut_watchWrite (s : State) (l : Fin 4) (d : Fin 28) (w : WatchRecord) : SameBut [] s (s.watchWrite l d w) := by
  unfold State.watchWrite
  split <;> exact .refl s

@[simp] theorem State.watchWrite_links (s : State) (l : Fin 4) (d : Fin 28) (w : WatchRecord) :
    (s.watchWrite l d w).links = s.links := by
  unfold State.watchWrite
  split <;> rfl

@[simp] theorem State.watchPoll_links (s : State) (l : Fin 4) (d : Fin 28) : (s.watchPoll l d).links = s.links := by
  unfold State.watchPoll
  split
  · exact State.watchWrite_links ..
  · rfl

theorem sameBut_watchPoll (s : State) (l : Fin 4) (d : Fin 28) : SameBut [] s (s.watchPoll l d) := by
  unfold State.watchPoll
  split
  · exact sameBut_watchWrite _ _ _ _
  · exact .refl s

theorem sameBut_sendPoll (s : State) (l : Fin 4) (d : Fin 28) : SameBut [] s (s.sendPoll l d) :=
  ((sameBut_watchPoll s l d).trans (sameBut_setDrop (by simp [State.drop]) (by simp [State.drop]))).trans
    (sameBut_setLink _ rfl)

theorem execPoll_sameBut {l : Fin 4} (h : execPoll l s = .next t) : SameBut [] s t := by
  cases h
  split
  · exact .refl s
  · split
    · exact sameBut_sendPoll _ _ _
    · exact .refl s

theorem sameBut_endPoll (s : State) (l : Fin 4) : SameBut [] s (s.endPoll l) := sameBut_setLink s rfl

theorem sameBut_deliver (s : State) (l : Fin 4) (p : Poll) : SameBut [] s (s.deliver l p) := by
  unfold State.deliver
  split
  · dsimp only
    split
    · exact (sameBut_watchWrite _ _ _ _).trans (sameBut_setDrop (by simp [State.drop]) (by simp [State.drop]))
    · exact sameBut_setDrop rfl rfl
  · exact .refl s

theorem sameBut_superviseDrop (s : State) (l : Fin 4) (d : Fin 28) (x : Drop) (told : Bool) :
    SameBut [.drops] s (if told then (s.setDrop l d x).raise .dropChange else s.setDrop l d x) := by
  split
  · exact (sameBut_setDrop_any s l d x).then (sameBut_raise _ _) (by simp)
  · exact sameBut_setDrop_any s l d x

theorem sameBut_supervise (s : State) (l : Fin 4) (d : Fin 28) (good : Bool) :
    SameBut [.drops, .service, .queue] s (s.supervise l d good) :=
  ((sameBut_superviseDrop s l d _ _).mono (by simp)).then (sameBut_recompute _) (by simp)

theorem sameBut_tamper (s : State) (l : Fin 4) (d : Fin 28) : SameBut [] s (s.tamper l d) :=
  sameBut_setDrop (x := { s.drop l d with mode := .barred }) rfl rfl

@[simp] theorem Drop.turnAway_lobby (x : Drop) (r : Request) (c : ReplyCode) : (x.turnAway r c).lobby = x.lobby := by
  unfold Drop.turnAway
  split <;> rfl

@[simp] theorem Drop.turnAway_state (x : Drop) (r : Request) (c : ReplyCode) : (x.turnAway r c).state = x.state := by
  unfold Drop.turnAway
  split <;> rfl

theorem sameBut_takeEntry (s : State) (e : Fin 64) (l : Fin 4) (d : Fin 28) (origin : Nat) (r : Request) :
    SameBut [.lookup, .entries] s (s.takeEntry e l d origin r) := by
  refine SameBut.then ?_ (sameBut_queueLookup _ _) (by simp)
  refine SameBut.then ?_ (sameBut_setDrop rfl rfl) (by simp)
  exact (sameBut_setEntry s e _).mono (by simp)

theorem sameBut_arrive (s : State) (l : Fin 4) (d : Fin 28) (r : Request) :
    SameBut [.lookup, .entries] s (s.arrive l d r) := by
  unfold State.arrive
  dsimp only
  split
  · exact SameBut.then (.refl s) (sameBut_setDrop rfl rfl) (by simp)
  · exact sameBut_takeEntry _ _ _ _ _ _
  · exact .refl s

theorem sameBut_request (s : State) (l : Fin 4) (d : Fin 28) (r : Request) :
    SameBut [.lookup, .entries] s (s.request l d r) := by
  unfold State.request
  dsimp only
  split
  · exact SameBut.then (.refl s) (sameBut_setDrop (by simp) (by simp)) (by simp)
  · split
    · exact SameBut.then (.refl s) (sameBut_setDrop (by simp) (by simp)) (by simp)
    · split
      · exact SameBut.then (.refl s) (sameBut_setDrop (by simp) (by simp)) (by simp)
      · exact SameBut.trans (SameBut.then (.refl s) (sameBut_setDrop (x := { s.drop l d with
          transaction := some (r.transaction none) }) rfl rfl) (by simp)) (sameBut_arrive _ _ _ _)

/-- The blocks that a poll's outcome may write. -/
def pollBlocks : List Block := [.lookup, .entries, .drops, .service, .queue]

theorem sameBut_goodAnswer (s : State) (l : Fin 4) (p : Poll) (a : Answer) :
    SameBut pollBlocks s (s.goodAnswer l p a) := by
  have h1 : SameBut pollBlocks s ((s.deliver l p).supervise l p.drop true) :=
    ((sameBut_deliver s l p).mono (by simp)).trans ((sameBut_supervise _ _ _ _).mono (by simp [pollBlocks]))
  have h2 : SameBut pollBlocks s
      (if a.tamper then ((s.deliver l p).supervise l p.drop true).tamper l p.drop
       else (s.deliver l p).supervise l p.drop true) := by
    split
    · exact h1.then (sameBut_tamper _ _ _) (by simp)
    · exact h1
  unfold State.goodAnswer
  dsimp only
  split
  · exact h2.then (sameBut_request _ _ _ _) (by simp [pollBlocks])
  · exact h2

theorem execPollAnswer_sameBut {l : Fin 4} {bytes : List Byte} (h : execPollAnswer l bytes s = .next t) :
    SameBut pollBlocks s t := by
  cases h
  split
  · exact .refl s
  · split
    · exact .refl s
    · split
      · exact ((sameBut_endPoll s l).mono (by simp)).trans (sameBut_goodAnswer _ _ _ _)
      · exact ((sameBut_endPoll s l).mono (by simp)).trans ((sameBut_supervise _ _ _ _).mono (by simp [pollBlocks]))

theorem execPollAnswerTimeout_sameBut {l : Fin 4} (h : execPollAnswerTimeout l s = .next t) :
    SameBut [.drops, .service, .queue] s t := by
  cases h
  split
  · exact .refl s
  · split
    · exact .refl s
    · exact ((sameBut_endPoll s l).mono (by simp)).trans (sameBut_supervise _ _ _ _)

/-- A good frame's content acts after the liveness step. -/
theorem State.receive_sameBut {content : State → State} (h : s.receive content = .next t) (hq : Block.queue ∈ bs)
    (hc : ∀ u, SameBut bs u (content u)) : SameBut bs s t := by
  cases h
  split
  · exact .refl s
  · rw [State.hear_eq_heard]
    exact ((sameBut_hear s).mono (by simpa using hq)).trans (hc _)

theorem sameBut_setGroupState (s : State) (g : Fin 12) (x : GroupState) : SameBut [] s (s.setGroupState g x) := .refl s

theorem sameBut_assigned (s : State) (e : Fin 64) (en : Entry) (car : Fin 16) :
    SameBut [.entries, .trips] s (s.assigned e en car) := by
  unfold State.assigned
  split
  · rw [State.assignTrip_eq]
    exact ((sameBut_trips s _).mono (by simp)).then (sameBut_answerAndFree _ _ _ _) (by simp)
  · exact (sameBut_setEntry s e none).mono (by simp)

theorem execAssign_sameBut {tag : Byte} {car : Fin 16} (h : execAssign tag car s = .next t) :
    SameBut [.entries, .queue, .trips] s t :=
  State.receive_sameBut h (by simp) fun u => by
    split
    · exact (sameBut_assigned _ _ _ _).mono (by simp)
    · exact .refl u

theorem sameBut_declineGroup (s : State) (en : Entry) (reason : DeclineReason) :
    SameBut [] s (s.declineGroup en reason) := by
  unfold State.declineGroup
  split
  · exact sameBut_setGroupState _ _ _
  · exact .refl s

theorem execDecline_sameBut {tag : Byte} {reason : DeclineReason} (h : execDecline tag reason s = .next t) :
    SameBut [.lookup, .entries, .queue] s t :=
  State.receive_sameBut h (by simp) fun u => by
    split
    · exact ((sameBut_declineGroup u _ _).mono (by simp)).trans ((sameBut_failOffer _ _ _ _).mono (by simp))
    · exact .refl u

theorem execGroupState_sameBut {g : Fin 12} {x : GroupState} (h : execGroupState g x s = .next t) :
    SameBut [.queue] s t :=
  State.receive_sameBut h (by simp) fun u => (sameBut_setGroupState u g x).mono (by simp)

theorem execLinkAnswer_sameBut (h : execLinkAnswer s = .next t) : SameBut [.queue] s t :=
  State.receive_sameBut h (by simp) fun u => .refl u

theorem execDispatchBadFrame_sameBut {bytes : List Byte} (h : execDispatchBadFrame bytes s = .next t) :
    SameBut [] s t := by
  unfold execDispatchBadFrame at h
  split at h
  · cases h
  · cases h; split <;> exact .refl s

theorem execDispatchFrameGap_sameBut (h : execDispatchFrameGap s = .next t) : SameBut [] s t := by
  cases h; split <;> exact .refl s

theorem execFrameBegins_sameBut (h : execFrameBegins s = .next t) : SameBut [] s t := by
  cases h; split <;> exact .refl s

theorem execFrameTransmit_sameBut (h : execFrameTransmit s = .next t) : SameBut [.queue] s t := by
  cases h
  split
  · exact .refl s
  · split
    · exact .refl s
    · dsimp only
      split
      · exact (sameBut_dispatch s _).then (sameBut_dispatch _ _) (by simp)
      · exact sameBut_dispatch s _

theorem sameBut_sent (s : State) (f : TxFrame) : SameBut [.entries] s (s.sent f) := by
  unfold State.sent
  split
  · split
    · exact sameBut_setEntry _ _ _
    · exact .refl s
  · exact .refl s

theorem execFrameSent_sameBut (h : execFrameSent s = .next t) : SameBut [.entries] s t := by
  cases h
  split
  · exact .refl s
  · split
    · exact .refl s
    · exact SameBut.trans (t := { s with dispatch := { s.dispatch with sending := none } }) (.refl s) (sameBut_sent _ _)

theorem sameBut_countTimeout (s : State) : SameBut [.queue] s s.countTimeout := by
  unfold State.countTimeout
  dsimp only
  split
  · exact sameBut_dispatch s _
  · exact sameBut_dispatch s _

theorem execOfferExpiry_sameBut {e : Fin 64} (h : execOfferExpiry e s = .next t) :
    SameBut [.lookup, .entries, .queue] s t := by
  cases h
  split
  · exact .refl s
  · split
    · exact .refl s
    · split
      · split
        · exact .refl s
        · refine SameBut.trans ?_ ((sameBut_failOffer _ _ _ _).mono (by simp))
          split
          · exact (sameBut_countTimeout s).mono (by simp)
          · exact (sameBut_dispatch s _).mono (by simp)
      · exact .refl s

theorem execLinkCheckTimer_sameBut (h : execLinkCheckTimer s = .next t) : SameBut [.queue] s t := by
  cases h
  split
  · exact .refl s
  · exact sameBut_dispatch s _

theorem execResetEnd_sameBut (h : execResetEnd s = .next t) : SameBut [.queue] s t := by
  cases h
  split
  · exact SameBut.trans (t := { s with inReset := false }) (.refl s) (sameBut_dispatch _ _)
  · exact .refl s

theorem execAttnPulseEnd_sameBut (h : execAttnPulseEnd s = .next t) : SameBut [] s t := by
  cases h; split <;> exact .refl s

end Events

/-! ### Every command and event -/

/-- Every block. -/
def allBlocks : List Block :=
  [.store, .lookup, .upkeep, .patterns, .clock, .live, .lifetime, .entries, .drops, .service, .queue, .trips, .engine]

theorem mem_allBlocks (b : Block) : b ∈ allBlocks := by cases b <;> decide

/-- The blocks that a command or event may write. -/
def blocksWritten : Instr → List Block
  | .coldReset _ | .warmReset | .restart _ _ => allBlocks
  | .resetEnd | .groupState _ _ | .linkAnswer | .frameTransmit | .linkCheckTimer => [.queue]
  | .tickEdge | .internalTick | .clockEnd | .tripExpiry => [.clock, .trips]
  | .emgAssert => [.lookup, .entries]
  | .putCredential _ _ | .getCredential _ _ | .dropCredential _ _ | .setState _ _ | .replenish _ _ | .readSlot _ _ =>
    [.upkeep, .engine]
  | .commitMap _ _ => [.live]
  | .setDrop _ _ | .setLink _ _ | .pollAnswerTimeout _ => [.drops, .service, .queue]
  | .setPattern _ _ => [.patterns]
  | .setClock _ _ => [.clock]
  | .setTimers _ _ => [.lifetime]
  | .bankTurn _ => turnBlocks
  | .pollAnswer _ _ => pollBlocks
  | .assign _ _ => [.entries, .queue, .trips]
  | .decline _ _ | .offerExpiry _ => [.lookup, .entries, .queue]
  | .frameSent => [.entries]
  | _ => []

/-- A command or event leaves every block that it is not listed to write. -/
theorem exec_sameBut {i : Instr} {s t : State} (h : exec i s = .next t) : SameBut (blocksWritten i) s t := by
  cases i with
  | coldReset _ | warmReset | restart _ _ => exact fun b hb => absurd (mem_allBlocks b) hb
  | resetEnd => exact execResetEnd_sameBut h
  | tickEdge => exact execTickEdge_sameBut h
  | internalTick => exact execInternalTick_sameBut h
  | clockEnd => exact execClockEnd_sameBut h
  | tripExpiry => exact execTripExpiry_sameBut h
  | emgAssert => exact execEmgAssert_sameBut h
  | emgRelease => cases h; exact .refl s
  | frameError => exact execFrameError_sameBut h
  | unknownCommand => exact execUnknownCommand_sameBut h
  | response => exact execResponse_sameBut h
  | putCredential | getCredential | dropCredential | setState | replenish | readSlot =>
    exact State.storeCommand_sameBut h
  | putProfile => exact execPutProfile_sameBut h
  | getProfile => exact execGetProfile_sameBut h
  | setFloor => exact execSetFloor_sameBut h
  | setGroup => exact execSetGroup_sameBut h
  | setZone => exact execSetZone_sameBut h
  | setTransfer => exact execSetTransfer_sameBut h
  | commitMap => exact execCommitMap_sameBut h
  | discardMap => exact execDiscardMap_sameBut h
  | readMap => exact execReadMap_sameBut h
  | setLobby => exact execSetLobby_sameBut h
  | setDrop => exact execSetDrop_sameBut h
  | barDrop | unbarDrop => exact State.modeCommand_sameBut h
  | setLink => exact execSetLink_sameBut h
  | watch => exact execWatch_sameBut h
  | readWatch => exact execReadWatch_sameBut h
  | setPattern => exact execSetPattern_sameBut h
  | readPattern => exact execReadPattern_sameBut h
  | setClock => exact execSetClock_sameBut h
  | setTickSource => exact execSetTickSource_sameBut h
  | putHolidays => exact execPutHolidays_sameBut h
  | setSites => exact execSetSites_sameBut h
  | setMode => exact execSetMode_sameBut h
  | setClosures => exact execSetClosures_sameBut h
  | setTimers => exact execSetTimers_sameBut h
  | sweepNow => exact execSweepNow_sameBut h
  | readStatus => exact execReadStatus_sameBut h
  | setAttention => exact execSetAttention_sameBut h
  | clearAttention => exact execClearAttention_sameBut h
  | bankTurn => exact execBankTurn_sameBut h
  | sweepIntervalExpiry => exact execSweepIntervalExpiry_sameBut h
  | poll => exact execPoll_sameBut h
  | pollAnswer => exact execPollAnswer_sameBut h
  | pollAnswerTimeout => exact execPollAnswerTimeout_sameBut h
  | assign => exact execAssign_sameBut h
  | decline => exact execDecline_sameBut h
  | groupState => exact execGroupState_sameBut h
  | linkAnswer => exact execLinkAnswer_sameBut h
  | dispatchBadFrame => exact execDispatchBadFrame_sameBut h
  | dispatchFrameGap => exact execDispatchFrameGap_sameBut h
  | frameTransmit => exact execFrameTransmit_sameBut h
  | frameSent => exact execFrameSent_sameBut h
  | offerExpiry => exact execOfferExpiry_sameBut h
  | linkCheckTimer => exact execLinkCheckTimer_sameBut h
  | attnPulseEnd => exact execAttnPulseEnd_sameBut h
  | frameBegins => exact execFrameBegins_sameBut h

/-- A millisecond writes counters alone. -/
theorem sameBut_millisecond (s : State) : SameBut [] s s.millisecond := by
  unfold State.millisecond
  split
  · exact .refl s
  · exact fun b _ => by
      cases b with
      | engine => exact Iff.rfl
      | clock => simp only [Block.Same, State.count]; split <;> rfl
      | _ => rfl

/-! ### Invariants by the blocks they read -/

/-- A property of states that reads no more than the blocks listed. -/
def RestsOn (bs : List Block) (I : State → Prop) : Prop := ∀ s t, (∀ b ∈ bs, b.Same s t) → I s → I t

section RestsOn
variable {bs bs' : List Block} {I : State → Prop} {s t : State}

/-- What writes none of the blocks that a property reads keeps it. -/
theorem RestsOn.keeps (hI : RestsOn bs I) (h : SameBut bs' s t) (hs : I s) (hd : ∀ b ∈ bs, b ∉ bs' := by decide) : I t :=
  hI s t (fun b hb => h b (hd b hb)) hs

/-- A reset: cold, warm, the end of one, and RESTART. -/
def isReset : Instr → Bool
  | .coldReset _ | .warmReset | .resetEnd | .restart _ _ => true
  | _ => false

/-- The bytes clocked out are in no block. -/
theorem sameBut_restarted (s : State) : SameBut [] s.warmReset.endReset s.restarted := .refl s.warmReset.endReset

/-- A COMMAND frame keeps what its body keeps outside WORKING, and what reads none of the port but whether it is WORKING. -/
theorem RestsOn.keeps_command (hI : RestsOn bs I) {fell : Fall} {args : List Byte} {body : State → State} (hs : I s)
    (h : s.command fell args body = .next t) (hbody : ∀ u, u.port.engine ≠ .working → I u → I (body u)) : I t := by
  rcases s.command_cases fell args body with ⟨-, hc⟩ | ⟨-, -, hc⟩ | ⟨⟨-, hw⟩, hc⟩ <;> (rw [hc] at h; cases h)
  · exact hs
  · refine hI.keeps (bs' := []) (fun b _ => ?_) hs (by simp)
    cases b with
    | engine => exact Iff.rfl
    | _ => rfl
  · refine hbody _ (by simp [State.taken]) (hI.keeps (bs' := []) (fun b _ => ?_) hs (by simp))
    cases b with
    | engine => exact iff_of_false (by simp [State.taken]) hw
    | _ => rfl

theorem RestsOn.keeps_plainCommand (hI : RestsOn bs I) {fell : Fall} {args : List Byte} {body : State → State} (hs : I s)
    (h : s.plainCommand fell args body = .next t) (hbody : ∀ u, u.port.engine ≠ .working → I u → I (body u)) : I t :=
  hI.keeps_command hs h fun u hw hu => by
    split
    · exact hbody u hw hu
    · exact hI.keeps (bs' := []) (.finish (.refl u) hw) hu (by simp)

/-- RESTART is a warm reset and its end. -/
theorem RestsOn.keeps_restart (hI : RestsOn bs I) (hwarm : ∀ s, I s → I s.warmReset) (hend : ∀ s, I s → I s.endReset)
    {fell : Fall} {args : List Byte} (hs : I s) (h : execRestart fell args s = .next t) : I t :=
  hI.keeps_plainCommand hs h fun u _ hu => hI.keeps (sameBut_restarted u) (hend _ (hwarm _ hu)) (by simp)

/-- Every step keeps a property that the resets keep, and that each command and event keeps which may write a block it reads. -/
theorem RestsOn.keeps_step (hI : RestsOn bs I) (hcold : ∀ s : State, I s.coldReset) (hwarm : ∀ s, I s → I s.warmReset)
    (hend : ∀ s, I s → I s.endReset)
    (hexec : ∀ i s t, isReset i = false → (∃ b ∈ bs, b ∈ blocksWritten i) → I s → exec i s = .next t → I t) (hs : I s)
    (h : step s = .next t) : I t := by
  unfold step at h
  split at h
  · cases h; exact hI.keeps (sameBut_millisecond s) hs (by simp)
  · rename_i i rest _
    have hs : I { s with pending := rest } := hI.keeps (bs' := []) (.refl s) hs (by simp)
    cases hr : isReset i with
    | false =>
      by_cases hw : ∃ b ∈ bs, b ∈ blocksWritten i
      · exact hexec i _ t hr hw hs h
      · exact hI.keeps (exec_sameBut h) hs fun b hb hb' => hw ⟨b, hb, hb'⟩
    | true =>
      cases i with
      | coldReset high =>
        cases h
        split
        · exact hend _ (hcold _)
        · exact hcold _
      | warmReset =>
        cases h
        split
        · exact hs
        · exact hwarm _ hs
      | resetEnd =>
        cases h
        split
        · exact hend _ hs
        · exact hs
      | restart fell args => exact hI.keeps_restart hwarm hend hs h
      | _ => simp [isReset] at hr

end RestsOn

end Sys2Proof.Machine

/-! ## The clock stays in range (R39, R42, R45) -/

namespace Sys2Proof.Machine

theorem clockKept_restsOn : RestsOn [.clock] State.ClockKept := by
  intro s t h hs
  have hc : t.clock.reading = s.clock.reading := h .clock (by simp)
  simp only [Clock.reading, Prod.mk.injEq] at hc
  obtain ⟨hstate, hday, hweekday, hminute, hsecond⟩ := hc
  simpa only [State.ClockKept, Clock.InRange, Clock.siteSecond, Clock.siteMinute, hstate, hday, hweekday, hminute,
    hsecond] using hs

theorem Clock.atEnd_iff (c : Clock) : c.atEnd = true ↔ c.day = 65535 ∧ c.minute = 1439 ∧ c.second = 59 := by
  simp [Clock.atEnd, and_assoc]

theorem Clock.advance_state (c : Clock) : c.advance.state = c.state := by
  unfold Clock.advance
  split_ifs <;> rfl

/-- One second on stays in range, but at the clock's last second. -/
theorem Clock.inRange_advance {c : Clock} (h : c.InRange) (hend : ¬ c.atEnd = true) : c.advance.InRange := by
  obtain ⟨hday, hweekday, hminute, hsecond⟩ := h
  rw [Clock.atEnd_iff] at hend
  unfold Clock.advance Clock.InRange
  split_ifs <;> refine ⟨?_, ?_, ?_, ?_⟩ <;> dsimp only <;> omega

theorem State.clockKept_tickClock {s : State} (hs : s.ClockKept) : s.tickClock.ClockKept := by
  unfold State.tickClock
  obtain ⟨hrange, hended, hunset⟩ := hs
  split_ifs with hrun hend
  · exact ⟨hrange, fun _ => (Clock.atEnd_iff _).1 hend, fun hu => by simp at hu⟩
  · have hstate := (Clock.advance_state s.clock).trans hrun
    exact ⟨Clock.inRange_advance hrange hend, fun he => by simp [hstate] at he, fun hu => by simp [hstate] at hu⟩
  · exact ⟨hrange, hended, hunset⟩

theorem State.clockKept_tick {s : State} (hs : s.ClockKept) : s.tick.ClockKept :=
  clockKept_restsOn.keeps (sameBut_tickTrips _) (State.clockKept_tickClock hs)

theorem State.clockKept_wholeTick {s : State} (hs : s.ClockKept) : s.restartDivider.tick.ClockKept :=
  State.clockKept_tick (clockKept_restsOn.keeps (sameBut_restartDivider s) hs)

theorem field_two_lt (args : List Byte) (i : Nat) : field args i 2 < 65536 := by
  have h := num_lt ((args.drop i).take 2)
  have hlen : ((args.drop i).take 2).length ≤ 2 := List.length_take_le _ _
  exact h.trans_le (Nat.pow_le_pow_right (by decide) hlen)

theorem execSetClock_clockKept {fell : Fall} {args : List Byte} {s t : State} (hs : s.ClockKept)
    (h : execSetClock fell args s = .next t) : t.ClockKept :=
  clockKept_restsOn.keeps_command hs h fun u _ hu => by
    split
    · rename_i hargs
      obtain ⟨-, hweekday, hminute, hsecond⟩ := hargs
      refine ⟨⟨?_, hweekday, hminute, hsecond⟩, ?_, ?_⟩
      · exact Nat.le_of_lt_succ (field_two_lt args 0)
      · simp [State.finishPlain_eq]
      · simp [State.finishPlain_eq]
    · exact hu

/-- Settles O51: of what writes the clock's readings, a tick advances below the last second or holds it, SET CLOCK checks its
values, and the resets write day 0, minute 0, second 0. -/
theorem stepsKeepTheClockInRange : Obligations.StepsKeepTheClockInRange := by
  intro s t hs h
  have hunset : ∀ u : State, u.clock.reading = coldClock.reading → u.ClockKept := fun u hu => by
    simp only [Clock.reading, Prod.mk.injEq, coldClock] at hu
    obtain ⟨hstate, hday, hweekday, hminute, hsecond⟩ := hu
    simp [State.ClockKept, Clock.InRange, Clock.siteSecond, Clock.siteMinute, hstate, hday, hweekday, hminute, hsecond]
  refine clockKept_restsOn.keeps_step (fun u => hunset _ rfl) (fun u _ => hunset _ rfl) (fun u hu => hu)
    (fun i u v hr hw hu hv => ?_) hs h
  cases i with
  | tickEdge =>
    cases hv
    split
    · exact hu
    · exact State.clockKept_tick hu
  | internalTick =>
    cases hv
    split
    · exact hu
    · exact State.clockKept_wholeTick hu
  | clockEnd =>
    cases hv
    split
    · exact State.clockKept_wholeTick hu
    · exact hu
  | tripExpiry =>
    cases hv
    split
    · exact State.clockKept_wholeTick hu
    · exact hu
  | setClock fell args => exact execSetClock_clockKept hu hv
  | _ => simp [blocksWritten, turnBlocks, pollBlocks, isReset] at hw hr

end Sys2Proof.Machine

/-! ## The transmit queue stays bounded (R129, R133) -/

namespace Sys2Proof.Machine

/-- At most 32 notices and one LINK CHECK wait in a queue. -/
def QueueBounded (q : List TxFrame) : Prop := q.countP TxFrame.isNotice ≤ 32 ∧ q.count .linkCheck ≤ 1

theorem State.queueKept_iff (s : State) : s.QueueKept ↔ QueueBounded s.dispatch.queue := Iff.rfl

theorem queueKept_restsOn : RestsOn [.queue] State.QueueKept := by
  intro s t h hs
  have hq : t.dispatch.queue = s.dispatch.queue := h .queue (by simp)
  rwa [State.queueKept_iff, hq]

/-- What is taken out of a bounded queue leaves it bounded. -/
theorem QueueBounded.sublist {q q' : List TxFrame} (h : QueueBounded q) (hs : q'.Sublist q) : QueueBounded q' :=
  ⟨(hs.countP_le).trans h.1, (hs.count_le _).trans h.2⟩

theorem QueueBounded.append_offer {q : List TxFrame} (h : QueueBounded q) (owner : Option (Fin 64)) (o : Offer) :
    QueueBounded (q ++ [.offer owner o]) := by
  simpa [QueueBounded, TxFrame.isNotice] using h

/-- A notice joins only below 32. -/
theorem QueueBounded.queueNotice {d : DispatchLink} (h : QueueBounded d.queue) (n : Fin 16) (x : Service) (p : Fallback) :
    QueueBounded (d.queueNotice (.notice n x p)).queue := by
  unfold DispatchLink.queueNotice
  split
  · exact h
  · rename_i hfull
    simp only [Config.noticeCapacity, not_le] at hfull
    refine ⟨?_, by simpa using h.2⟩
    simp only [List.countP_append, List.countP_singleton, TxFrame.isNotice, if_true]
    omega

/-- A LINK CHECK joins only where none waits. -/
theorem QueueBounded.queueLinkCheck {d : DispatchLink} (h : QueueBounded d.queue) : QueueBounded d.queueLinkCheck.queue := by
  unfold DispatchLink.queueLinkCheck
  split
  · exact h
  · rename_i hnone
    have hzero : d.queue.count .linkCheck = 0 := List.count_eq_zero.2 (by simpa using hnone)
    exact ⟨by simpa [TxFrame.isNotice] using h.1, by simp [hzero]⟩

theorem State.notices_isNotice {s : State} {f : TxFrame} (hf : f ∈ s.notices) : f.isNotice = true := by
  simp only [State.notices, List.mem_filterMap] at hf
  obtain ⟨n, -, hn⟩ := hf
  split at hn
  · cases hn
  · cases hn; rfl

theorem State.notices_length_le (s : State) : s.notices.length ≤ 16 := by
  unfold State.notices
  exact (List.length_filterMap_le _ _).trans (by simp)

/-- A re-announcement leaves one notice for each lobby at most, and no further LINK CHECK. -/
theorem QueueBounded.reannounced {q : List TxFrame} (h : QueueBounded q) (s : State) :
    QueueBounded (q.filter (fun f => !f.isNotice) ++ s.notices) := by
  have hnotices : (q.filter fun f => !f.isNotice).countP TxFrame.isNotice = 0 := by
    simp [List.countP_eq_zero]
  have hchecks : s.notices.count .linkCheck = 0 := List.count_eq_zero.2 fun hm => by
    simpa [TxFrame.isNotice] using State.notices_isNotice hm
  refine ⟨?_, ?_⟩
  · rw [List.countP_append, hnotices]
    have := List.countP_le_length (p := TxFrame.isNotice) (l := s.notices)
    have := s.notices_length_le
    omega
  · rw [List.count_append, hchecks]
    exact (List.filter_sublist.count_le _).trans h.2

theorem State.queueKept_recompute {s : State} (hs : s.QueueKept) : s.recompute.QueueKept :=
  List.foldlRecOn _ _ hs fun u hu n _ => by
    unfold State.recomputeLobby
    split_ifs
    · exact hu
    · exact QueueBounded.queueNotice hu _ _ _
    · exact hu

theorem State.queueKept_heard {s : State} (hs : s.QueueKept) : s.heard.QueueKept := by
  unfold State.heard
  split
  · exact hs
  · exact QueueBounded.reannounced hs s

theorem State.queueKept_receive {s t : State} {content : State → State} {bs : List Block} (hs : s.QueueKept)
    (h : s.receive content = .next t) (hc : ∀ u, SameBut bs u (content u)) (hd : Block.queue ∉ bs) : t.QueueKept := by
  cases h
  split
  · exact hs
  · rw [State.hear_eq_heard]
    exact queueKept_restsOn.keeps (hc _) (State.queueKept_heard hs) (by simpa using hd)

theorem State.queueKept_supervise {s : State} (hs : s.QueueKept) (l : Fin 4) (d : Fin 28) (good : Bool) :
    (s.supervise l d good).QueueKept :=
  State.queueKept_recompute (queueKept_restsOn.keeps (sameBut_superviseDrop s l d _ _) hs)

theorem State.queueKept_goodAnswer {s : State} (hs : s.QueueKept) (l : Fin 4) (p : Poll) (a : Answer) :
    (s.goodAnswer l p a).QueueKept := by
  have h1 := State.queueKept_supervise (queueKept_restsOn.keeps (sameBut_deliver s l p) hs) l p.drop true
  unfold State.goodAnswer
  dsimp only
  have h2 : (if a.tamper then ((s.deliver l p).supervise l p.drop true).tamper l p.drop
       else (s.deliver l p).supervise l p.drop true).QueueKept := by
    split
    · exact queueKept_restsOn.keeps (sameBut_tamper _ _ _) h1
    · exact h1
  split
  · exact queueKept_restsOn.keeps (sameBut_request _ _ _ _) h2
  · exact h2

theorem State.queueKept_becomeSilent {s : State} (hs : s.QueueKept) : s.becomeSilent.QueueKept :=
  QueueBounded.queueLinkCheck (d := { s.dispatch with state := .silent, checkTimer := some Config.linkCheckPeriod }) hs

theorem State.queueKept_countTimeout {s : State} (hs : s.QueueKept) : s.countTimeout.QueueKept := by
  unfold State.countTimeout
  dsimp only
  split
  · exact State.queueKept_becomeSilent (s := { s with
      dispatch := { s.dispatch with timeouts := min 3 (s.dispatch.timeouts + 1) } }) hs
  · exact hs

/-- A turn's offer is neither a notice nor a LINK CHECK. -/
theorem State.queueKept_takeDecision {s : State} (hs : s.QueueKept) (e : Fin 64) (en : Entry) (b : Bucket) (w : Way)
    (r : Record) : (s.takeDecision e en b w r).QueueKept := by
  unfold State.takeDecision
  dsimp only
  split
  · exact queueKept_restsOn.keeps (sameBut_answerAndFree _ _ _ _) hs
  · exact queueKept_restsOn.keeps (sameBut_answerAndFree _ _ _ _) hs
  · exact QueueBounded.append_offer hs _ _

theorem State.queueKept_lookupTurn {s : State} (hs : s.QueueKept) (q : LookupRequest) : (s.lookupTurn q).QueueKept := by
  unfold State.lookupTurn
  split
  · exact hs
  · split
    · unfold State.probeTurn
      split
      · exact State.queueKept_takeDecision hs _ _ _ _ _
      · split
        · split
          · exact queueKept_restsOn.keeps (sameBut_answerAndFree _ _ _ _) hs
          · exact hs
        · exact queueKept_restsOn.keeps (sameBut_answerAndFree _ _ _ _) hs
    · exact hs

/-- A bank's turn keeps a property of none of the banks' parts that the three kinds of turn keep. -/
theorem RestsOn.keeps_bankTurn {bs : List Block} {I : State → Prop} (hI : RestsOn bs I)
    (hbs : ∀ b ∈ bs, b ∉ [Block.lookup, .upkeep, .patterns]) (hlookup : ∀ u q, I u → I (u.lookupTurn q))
    (hupkeep : ∀ u q, I u → I (u.upkeepTurn q)) (hsweep : ∀ u b, I u → I (u.sweepTurn b)) {n : Fin 4} {s t : State}
    (hs : I s) (h : execBankTurn n s = .next t) : I t := by
  unfold execBankTurn at h
  split at h
  · cases h; exact hs
  · have hu : I { s with banks := s.banks.set n (s.banks[n].turn (s.sweeper.state == .passing)).1 } := by
      refine hI s _ (fun b hb => ?_) hs
      have := hbs b hb
      cases b with
      | lookup | upkeep | patterns => simp at this
      | engine => exact Iff.rfl
      | _ => rfl
    cases h
    generalize hx : (s.banks[n].turn (s.sweeper.state == .passing)).2 = x
    cases x with
    | nothing => simpa only [hx, State.serve] using hu
    | lookup q => simpa only [hx, State.serve] using hlookup _ q hu
    | upkeep q => simpa only [hx, State.serve] using hupkeep _ q hu
    | sweep b => simpa only [hx, State.serve] using hsweep _ b hu

theorem State.queueKept_writeDrop {s : State} (hs : s.QueueKept) (l : Fin 4) (d : Fin 28) (enabled : Bool)
    (lobby : Fin 16) : (s.writeDrop l d enabled lobby).QueueKept :=
  State.queueKept_recompute (queueKept_restsOn.keeps (sameBut_links _ _)
    (queueKept_restsOn.keeps (sameBut_setDrop_any s l d _) hs))

section QueueEvents
variable {s t : State} (hs : s.QueueKept)
include hs

theorem execSetDrop_queueKept {fell : Fall} {args : List Byte} (h : execSetDrop fell args s = .next t) : t.QueueKept :=
  queueKept_restsOn.keeps_command hs h fun u _ hu => by
    split
    · split
      · exact queueKept_restsOn.keeps (sameBut_finish _ _ _) (State.queueKept_writeDrop hu _ _ _ _)
      · exact hu
    · exact hu

theorem execSetLink_queueKept {fell : Fall} {args : List Byte} (h : execSetLink fell args s = .next t) : t.QueueKept :=
  queueKept_restsOn.keeps_command hs h fun u _ hu => by
    split
    · split
      · exact queueKept_restsOn.keeps (sameBut_finish _ _ _)
          (State.queueKept_recompute (queueKept_restsOn.keeps (sameBut_links u _) hu))
      · exact hu
    · exact hu

theorem execBankTurn_queueKept {n : Fin 4} (h : execBankTurn n s = .next t) : t.QueueKept :=
  queueKept_restsOn.keeps_bankTurn (by simp) (fun _ q hu => State.queueKept_lookupTurn hu q)
    (fun _ _ hu => queueKept_restsOn.keeps (sameBut_upkeepTurn _ _) hu)
    (fun _ _ hu => queueKept_restsOn.keeps (sameBut_sweepTurn _ _) hu) hs h

theorem execPollAnswer_queueKept {l : Fin 4} {bytes : List Byte} (h : execPollAnswer l bytes s = .next t) :
    t.QueueKept := by
  have hend : (s.endPoll l).QueueKept := queueKept_restsOn.keeps (sameBut_endPoll s l) hs
  cases h
  split
  · exact hs
  · split
    · exact hs
    · split
      · exact State.queueKept_goodAnswer hend _ _ _
      · exact State.queueKept_supervise hend _ _ _

theorem execPollAnswerTimeout_queueKept {l : Fin 4} (h : execPollAnswerTimeout l s = .next t) : t.QueueKept := by
  have hend : (s.endPoll l).QueueKept := queueKept_restsOn.keeps (sameBut_endPoll s l) hs
  cases h
  split
  · exact hs
  · split
    · exact hs
    · exact State.queueKept_supervise hend _ _ _

theorem execAssign_queueKept {tag : Byte} {car : Fin 16} (h : execAssign tag car s = .next t) : t.QueueKept := by
  refine State.queueKept_receive (bs := [.entries, .trips]) hs h (fun u => ?_) (by simp)
  split
  · exact sameBut_assigned _ _ _ _
  · exact .refl u

theorem execDecline_queueKept {tag : Byte} {reason : DeclineReason} (h : execDecline tag reason s = .next t) :
    t.QueueKept := by
  refine State.queueKept_receive (bs := [.lookup, .entries]) hs h (fun u => ?_) (by simp)
  split
  · exact ((sameBut_declineGroup u _ _).mono (by simp)).trans (sameBut_failOffer _ _ _ _)
  · exact .refl u

theorem execGroupState_queueKept {g : Fin 12} {x : GroupState} (h : execGroupState g x s = .next t) : t.QueueKept :=
  State.queueKept_receive hs h (fun u => sameBut_setGroupState u g x) (by simp)

theorem execLinkAnswer_queueKept (h : execLinkAnswer s = .next t) : t.QueueKept :=
  State.queueKept_receive (bs := []) hs h (fun u => .refl u) (by simp)

theorem execFrameTransmit_queueKept (h : execFrameTransmit s = .next t) : t.QueueKept := by
  cases h
  split
  · exact hs
  · split
    · exact hs
    · rename_i f rest hq
      have hrest : QueueBounded rest := QueueBounded.sublist (hq ▸ hs) (List.sublist_cons_self f rest)
      dsimp only
      split
      · exact QueueBounded.reannounced hrest s
      · exact hrest

theorem execOfferExpiry_queueKept {e : Fin 64} (h : execOfferExpiry e s = .next t) : t.QueueKept := by
  cases h
  split
  · exact hs
  · split
    · exact hs
    · split
      · split
        · exact hs
        · refine queueKept_restsOn.keeps (sameBut_failOffer _ _ _ _) ?_
          split
          · exact State.queueKept_countTimeout hs
          · exact QueueBounded.sublist hs List.filter_sublist
      · exact hs

theorem execLinkCheckTimer_queueKept (h : execLinkCheckTimer s = .next t) : t.QueueKept := by
  cases h
  split
  · exact hs
  · exact QueueBounded.queueLinkCheck (d := { s.dispatch with checkTimer := some Config.linkCheckPeriod }) hs

end QueueEvents

/-- Settles O60: a notice and a LINK CHECK join the queue only where there is room, and a re-announcement puts one notice for each of
the 16 lobbies at most in place of those that waited. -/
theorem stepsKeepTheQueueBounded : Obligations.StepsKeepTheQueueBounded := by
  intro s t hs h
  refine queueKept_restsOn.keeps_step (fun u => ⟨Nat.zero_le _, Nat.zero_le _⟩) (fun u _ => ⟨Nat.zero_le _, Nat.zero_le _⟩)
    (fun u hu => QueueBounded.queueLinkCheck (d := { u.dispatch with checkTimer := some Config.linkCheckPeriod }) hu)
    (fun i u v hr hw hu hv => ?_) hs h
  cases i with
  | setDrop => exact execSetDrop_queueKept hu hv
  | setLink => exact execSetLink_queueKept hu hv
  | bankTurn => exact execBankTurn_queueKept hu hv
  | pollAnswer => exact execPollAnswer_queueKept hu hv
  | pollAnswerTimeout => exact execPollAnswerTimeout_queueKept hu hv
  | assign => exact execAssign_queueKept hu hv
  | decline => exact execDecline_queueKept hu hv
  | groupState => exact execGroupState_queueKept hu hv
  | linkAnswer => exact execLinkAnswer_queueKept hu hv
  | frameTransmit => exact execFrameTransmit_queueKept hu hv
  | offerExpiry => exact execOfferExpiry_queueKept hu hv
  | linkCheckTimer => exact execLinkCheckTimer_queueKept hu hv
  | _ => simp [blocksWritten, isReset] at hw hr

end Sys2Proof.Machine

/-! ## The maps and patterns stay valid (R26, R34, R58, R63) -/

namespace Sys2Proof.Machine

/-- A bank's current and staged patterns are valid. -/
def PatternsValid (x : Pattern × Option Pattern) : Prop :=
  Pattern.valid x.1 = true ∧ ∀ p, x.2 = some p → Pattern.valid p = true

theorem Vector.forall_mem_toList_iff {α : Type} {n : Nat} {P : α → Prop} (v : Vector α n) :
    (∀ a ∈ v.toList, P a) ↔ ∀ i : Fin n, P v[i] := by
  constructor
  · exact fun h i => h _ (by simp)
  · intro h a ha
    obtain ⟨i, hi, rfl⟩ := Vector.mem_iff_getElem.1 (Vector.mem_toList_iff.1 ha)
    exact h ⟨i, hi⟩

theorem Vector.get_of_map_eq {α β : Type} {n : Nat} {f : α → β} {v w : Vector α n} (h : v.map f = w.map f) (i : Fin n) :
    f v[i] = f w[i] := by
  have := congrArg (fun x => x[i]) h
  simpa using this

theorem State.mapsKept_iff (s : State) :
    s.MapsKept ↔ s.live.firstFault = none ∧ ∀ n : Fin 4, PatternsValid (s.banks[n].pattern, s.banks[n].staged) :=
  and_congr_right' (Vector.forall_mem_toList_iff s.banks)

theorem mapsKept_restsOn : RestsOn [.live, .patterns] State.MapsKept := by
  intro s t h hs
  have hlive : t.live = s.live := h .live (by simp)
  have hpatterns := h .patterns (by simp)
  rw [State.mapsKept_iff] at hs ⊢
  exact ⟨hlive ▸ hs.1, fun n => Vector.get_of_map_eq hpatterns n ▸ hs.2 n⟩

/-- A write of one bank keeps the patterns valid where it writes valid ones. -/
theorem State.mapsKept_setBank {s : State} (hs : s.MapsKept) (n : Fin 4) {b : Bank} (hb : PatternsValid (b.pattern, b.staged)) :
    ({ s with banks := s.banks.set n b } : State).MapsKept := by
  rw [State.mapsKept_iff] at hs ⊢
  refine ⟨hs.1, fun m => ?_⟩
  by_cases hm : n.val = m.val
  · obtain rfl := Fin.ext hm; simpa using hb
  · simpa [Vector.getElem_set_ne, hm] using hs.2 m

/-- At position 0 the staged pattern, which is valid, becomes current (R30, R35). -/
theorem Bank.patternsValid_turn {b : Bank} (hb : PatternsValid (b.pattern, b.staged)) (passing : Bool) :
    PatternsValid ((b.turn passing).1.pattern, (b.turn passing).1.staged) := by
  have hturn : (b.turn passing).1.pattern = b.current
      ∧ (b.turn passing).1.staged = if b.position = 0 then none else b.staged := by
    rw [Bank.turn_eq]
    dsimp only
    repeat' split
    all_goals exact ⟨rfl, rfl⟩
  rw [hturn.1, hturn.2, Bank.current]
  obtain ⟨hcurrent, hstaged⟩ := hb
  by_cases hp : b.position = 0
  · simp only [hp, if_true]
    refine ⟨?_, fun p h => by cases h⟩
    cases hst : b.staged with
    | none => exact hcurrent
    | some p => exact hstaged p hst
  · simp only [hp, if_false]
    exact ⟨hcurrent, hstaged⟩

theorem execBankTurn_mapsKept {n : Fin 4} {s t : State} (hs : s.MapsKept) (h : execBankTurn n s = .next t) :
    t.MapsKept := by
  unfold execBankTurn at h
  split at h
  · cases h; exact hs
  · cases h
    have hu : ({ s with banks := s.banks.set n (s.banks[n].turn (s.sweeper.state == .passing)).1 } : State).MapsKept :=
      State.mapsKept_setBank hs n (Bank.patternsValid_turn (((State.mapsKept_iff s).1 hs).2 n) _)
    cases hx : (s.banks[n].turn (s.sweeper.state == .passing)).2 with
    | nothing => simpa only [hx, State.serve] using hu
    | lookup q => simpa only [hx, State.serve] using mapsKept_restsOn.keeps (sameBut_lookupTurn _ q) hu
    | upkeep q => simpa only [hx, State.serve] using mapsKept_restsOn.keeps (sameBut_upkeepTurn _ q) hu
    | sweep b => simpa only [hx, State.serve] using mapsKept_restsOn.keeps (sameBut_sweepTurn _ b) hu

theorem execSetPattern_mapsKept {fell : Fall} {args : List Byte} {s t : State} (hs : s.MapsKept)
    (h : execSetPattern fell args s = .next t) : t.MapsKept :=
  mapsKept_restsOn.keeps_command hs h fun u _ hu => by
    split
    · exact hu
    · split
      · split
        · rename_i n p _ _ hvalid
          refine mapsKept_restsOn.keeps (bs' := [.engine]) (sameBut_finish _ _ _) (State.mapsKept_setBank hu n ?_)
          exact ⟨(((State.mapsKept_iff u).1 hu).2 n).1, fun x hx => by cases hx; exact hvalid⟩
        · exact hu
      · exact hu

/-- COMMIT MAP makes only a map live in which the commit check finds no fault (R63, R64). -/
theorem execCommitMap_mapsKept {fell : Fall} {args : List Byte} {s t : State} (hs : s.MapsKept)
    (h : execCommitMap fell args s = .next t) : t.MapsKept :=
  mapsKept_restsOn.keeps_plainCommand hs h fun u _ hu => by
    split
    · rename_i hfault
      exact ⟨hfault, hu.2⟩
    · exact hu

theorem State.mapsKept_coldReset (s : State) : s.coldReset.MapsKept := by
  have hmap : coldMap.firstFault = none := by decide +kernel
  refine (State.mapsKept_iff _).2 ⟨hmap, fun n => ?_⟩
  have hbank : s.coldReset.banks[n] = coldBank := by simp [State.coldReset, State.cold]
  rw [hbank]
  exact ⟨by decide, fun p hp => by cases hp⟩

theorem State.mapsKept_warmReset {s : State} (hs : s.MapsKept) : s.warmReset.MapsKept := by
  rw [State.mapsKept_iff] at hs ⊢
  refine ⟨hs.1, fun n => ?_⟩
  have hbank : s.warmReset.banks[n] = s.banks[n].warm := by simp [State.warmReset, State.resetService]
  rw [hbank]
  exact ⟨(hs.2 n).1, fun p hp => by cases hp⟩

/-- Settles O56: COMMIT MAP and SET PATTERN check what they write, and a turn at position 0 makes the staged pattern current. -/
theorem stepsKeepMapsValid : Obligations.StepsKeepMapsValid := by
  intro s t hs h
  refine mapsKept_restsOn.keeps_step State.mapsKept_coldReset (fun u => State.mapsKept_warmReset) (fun u hu => hu)
    (fun i u v hr hw hu hv => ?_) hs h
  cases i with
  | commitMap => exact execCommitMap_mapsKept hu hv
  | setPattern => exact execSetPattern_mapsKept hu hv
  | bankTurn => exact execBankTurn_mapsKept hu hv
  | _ => simp [blocksWritten, pollBlocks, isReset] at hw hr

end Sys2Proof.Machine

/-! ## The lobbies stay derived (R123) -/

namespace Sys2Proof.Machine

/-- A drop record by its lobby and state, out of what a link's standing lists. -/
theorem State.serviceOf_eq_standing (s : State) (n : Fin 16) :
    s.serviceOf n
      = (let all := (s.links.map Link.standing).toList.flatMap Vector.toList
         if all.any fun x => x.1 == n && (x.2 == .online || x.2 == .degraded) then .served
         else if all.any fun x => x.1 == n && x.2 != .disabled then .unserved
         else .vacant) := by
  simp [State.serviceOf, State.allDrops, Link.standing, List.any_flatMap, Function.comp_def, Drop.answering, Drop.enabled]

theorem serviceKept_restsOn : RestsOn [.drops, .service] State.ServiceKept := by
  intro s t h hs n
  have hdrops : t.links.map Link.standing = s.links.map Link.standing := h .drops (by simp)
  have hservice : t.service = s.service := h .service (by simp)
  rw [hservice, hs n, State.serviceOf_eq_standing, State.serviceOf_eq_standing, hdrops]

/-- The recomputation derives the lobbies from any drop records (R123). -/
theorem State.serviceKept_recompute (s : State) : s.recompute.ServiceKept := fun n => by
  rw [State.recompute_service, State.recompute_serviceOf]

theorem State.serviceKept_supervise (s : State) (l : Fin 4) (d : Fin 28) (good : Bool) :
    (s.supervise l d good).ServiceKept :=
  State.serviceKept_recompute _

theorem State.serviceKept_goodAnswer (s : State) (l : Fin 4) (p : Poll) (a : Answer) : (s.goodAnswer l p a).ServiceKept := by
  have h1 : ((s.deliver l p).supervise l p.drop true).ServiceKept :=
    State.serviceKept_supervise _ _ _ _
  have h2 : (if a.tamper then ((s.deliver l p).supervise l p.drop true).tamper l p.drop
      else (s.deliver l p).supervise l p.drop true).ServiceKept := by
    split
    · exact serviceKept_restsOn.keeps (sameBut_tamper _ _ _) h1
    · exact h1
  unfold State.goodAnswer
  dsimp only
  split
  · exact serviceKept_restsOn.keeps (sameBut_request _ _ _ _) h2
  · exact h2

section ServiceEvents
variable {s t : State} (hs : s.ServiceKept)
include hs

theorem execSetDrop_serviceKept {fell : Fall} {args : List Byte} (h : execSetDrop fell args s = .next t) :
    t.ServiceKept :=
  serviceKept_restsOn.keeps_command hs h fun u _ hu => by
    split
    · split
      · exact serviceKept_restsOn.keeps (sameBut_finish _ _ _) (State.serviceKept_recompute _)
      · exact hu
    · exact hu

theorem execSetLink_serviceKept {fell : Fall} {args : List Byte} (h : execSetLink fell args s = .next t) :
    t.ServiceKept :=
  serviceKept_restsOn.keeps_command hs h fun u _ hu => by
    split
    · split
      · exact serviceKept_restsOn.keeps (sameBut_finish _ _ _) (State.serviceKept_recompute _)
      · exact hu
    · exact hu

theorem execPollAnswer_serviceKept {l : Fin 4} {bytes : List Byte} (h : execPollAnswer l bytes s = .next t) :
    t.ServiceKept := by
  cases h
  split
  · exact hs
  · split
    · exact hs
    · split
      · exact State.serviceKept_goodAnswer _ _ _ _
      · exact State.serviceKept_supervise _ _ _ _

theorem execPollAnswerTimeout_serviceKept {l : Fin 4} (h : execPollAnswerTimeout l s = .next t) : t.ServiceKept := by
  cases h
  split
  · exact hs
  · split
    · exact hs
    · exact State.serviceKept_supervise _ _ _ _

end ServiceEvents

theorem State.serviceKept_coldReset (s : State) : s.coldReset.ServiceKept := by
  have hcold : State.cold.ServiceKept := by unfold State.ServiceKept; decide +kernel
  exact hcold

/-- A warm reset derives the lobbies from the drop records it leaves (R128). -/
theorem State.serviceKept_resetService (s : State) : s.resetService.ServiceKept := fun n => by
  simp [State.resetService, State.serviceOf, State.allDrops]

/-- Settles O57: whatever writes a drop's lobby or state recomputes the lobbies after it. -/
theorem stepsKeepLobbiesDerived : Obligations.StepsKeepLobbiesDerived := by
  intro s t hs h
  refine serviceKept_restsOn.keeps_step State.serviceKept_coldReset (fun _ _ => State.serviceKept_resetService _)
    (fun u hu => hu) (fun i u v hr hw hu hv => ?_) hs h
  cases i with
  | setDrop => exact execSetDrop_serviceKept hu hv
  | setLink => exact execSetLink_serviceKept hu hv
  | pollAnswer => exact execPollAnswer_serviceKept hu hv
  | pollAnswerTimeout => exact execPollAnswerTimeout_serviceKept hu hv
  | _ => simp [blocksWritten, turnBlocks, isReset] at hw hr

end Sys2Proof.Machine

/-! ## What the turns of a bank do to the store (R4, R13 to R24, R83 to R100, R165) -/

namespace Sys2Proof.Machine

/-- What a turn may do to the store besides a placement: nothing, the record of one slot rewritten under its key, or its slot freed.
The rewritten record is lawful where the old one was and `C` holds. -/
inductive Store.Edit (C : Prop) (st : Store) : Store → Prop
  | same : Edit C st st
  | rewritten {b : Bucket} {w : Way} {old r : Record} (edition : Nat) (hslot : st.slot b w = some old)
      (hkey : r.key = old.key) (hlawful : old.Lawful → C → r.Lawful) : Edit C st { st.write b w r with edition := edition }
  | freed {b : Bucket} {w : Way} {old : Record} (hslot : st.slot b w = some old) : Edit C st (st.release b w)

section Edit
variable {C : Prop} {st st' : Store}

theorem Store.Edit.kept (h : st.Edit C st') (hk : st.Kept) : st'.Kept := by
  cases h with
  | same => exact hk
  | rewritten _ hslot _ _ => exact Store.kept_write hk hslot _
  | freed hslot => exact Store.kept_release hk hslot

theorem Store.Edit.wf (h : st.Edit C st') (hwf : Table.wf 16384 st.slots) : Table.wf 16384 st'.slots := by
  cases h with
  | same => exact hwf
  | rewritten => exact Table.wf_put hwf (slotNumber_lt _ _) _
  | freed => exact Table.wf_erase hwf _

theorem Table.mem_put {α : Type} {t : List (Nat × α)} {n : Nat} {x : α} {p : Nat × α} (h : p ∈ Table.put t n x) :
    p = (n, x) ∨ p ∈ t := by
  induction t with
  | nil => simpa [Table.put] using h
  | cons a t ih =>
    obtain ⟨k, v⟩ := a
    simp only [Table.put] at h
    split_ifs at h
    · simpa using h
    · exact (List.mem_cons.1 h).imp_right (List.mem_cons_of_mem _)
    · rcases List.mem_cons.1 h with rfl | h
      · exact .inr List.mem_cons_self
      · exact (ih h).imp_right (List.mem_cons_of_mem _)

/-- Every record of a store is lawful. -/
def Store.Lawful (st : Store) : Prop := ∀ x ∈ st.slots, x.2.Lawful

theorem Store.Lawful.slot {b : Bucket} {w : Way} {r : Record} (h : st.Lawful) (hs : st.slot b w = some r) : r.Lawful :=
  h _ (Table.mem_of_get hs)

/-- A lawful record written or placed leaves a lawful store lawful. -/
theorem Store.Lawful.write (h : st.Lawful) (b : Bucket) (w : Way) {r : Record} (hr : r.Lawful) : (st.write b w r).Lawful :=
  fun x hx => by
    rcases Table.mem_put hx with rfl | hx
    · exact hr
    · exact h x hx

theorem Store.Edit.lawful (h : st.Edit C st') (hl : st.Lawful) (hc : C) : st'.Lawful := by
  cases h with
  | same => exact hl
  | rewritten _ hslot _ hr => exact hl.write _ _ (hr (hl.slot hslot) hc)
  | freed => exact fun x hx => hl x ((Table.erase_sublist _ _).subset hx)

/-- No slot gains a key but by a placement. -/
theorem Store.Edit.key_of_slot (h : st.Edit C st') (hwf : Table.wf 16384 st.slots) {b : Bucket} {w : Way} {r' : Record}
    (hs : st'.slot b w = some r') : ∃ r, st.slot b w = some r ∧ r.key = r'.key := by
  cases h with
  | same => exact ⟨r', hs, rfl⟩
  | @rewritten b0 w0 old r edition hslot hkey _ =>
    replace hs : (st.write b0 w0 r).slot b w = some r' := hs
    by_cases hbw : (b, w) = (b0, w0)
    · cases hbw
      rw [Store.slot_write] at hs
      cases hs
      exact ⟨old, hslot, hkey.symm⟩
    · exact ⟨r', by rwa [Store.slot_write_other _ _ hbw] at hs, rfl⟩
  | @freed b0 w0 old hslot =>
    by_cases hbw : (b, w) = (b0, w0)
    · cases hbw
      rw [Store.slot_release hwf] at hs
      cases hs
    · exact ⟨r', by rwa [Store.slot_release_other _ hbw] at hs, rfl⟩

end Edit

/-! ### UPKEEP turns -/

/-- What the turn of an UPKEEP request comes to: its next phase waits, and a PUT then knows its bucket to be without the key; or the
command ends, having edited the store, or having placed a record. -/
inductive State.UpkeepStep (s : State) (q : UpkeepRequest) : State → Prop
  | next {b : Bucket} {p : Phase}
      (hput : ∀ c, q.command = .put c → s.absent q.bucket c.key
        ∧ ((q.phase = .first ∧ p = .second ∧ b = c.key.home) ∨ (q.phase = .second ∧ p = .third ∧ b = c.key.alternate))) :
      UpkeepStep s q (s.nextPhase q.command b p)
  | ends {t : State} (hsame : SameBut [.store, .trips, .engine] s t) (hdone : t.port.engine = .done)
      (hedit : s.store.Edit q.command.Checked t.store) : UpkeepStep s q t
  | places {t : State} {c : Credential} {w : Way} {r : Record} (edition : Nat)
      (hsame : SameBut [.store, .trips, .engine] s t) (hdone : t.port.engine = .done) (hput : q.command = .put c)
      (hphase : q.phase = .third ∨ (q.phase = .second ∧ s.absent q.bucket c.key)) (hfree : s.store.slot q.bucket w = none)
      (hkey : r.key = c.key) (hlawful : c.valid = true → r.Lawful)
      (hstore : t.store = { s.store.place q.bucket w r with edition := edition }) : UpkeepStep s q t

/-- A checked credential names no SPENT or LAPSED state and no budget of 0 (R14). -/
theorem Credential.valid_state_budget {c : Credential} (h : c.valid = true) :
    (c.state = .active ∨ c.state = .suspended) ∧ c.budget ≠ some 0 := by
  simp only [Credential.valid, Bool.and_eq_true] at h
  obtain ⟨⟨⟨⟨⟨⟨⟨⟨⟨⟨⟨⟨-, hstate⟩, -⟩, -⟩, -⟩, -⟩, -⟩, -⟩, -⟩, -⟩, -⟩, -⟩, hbudget⟩ := h
  refine ⟨by simpa using hstate, fun hb => ?_⟩
  simp [hb, optAll] at hbudget

/-- What PUT CREDENTIAL stores is lawful (R7, R8, R18). -/
theorem Credential.lawful_stored {c : Credential} (h : c.valid = true) (now edition : Nat) (lastUse : Option LastUse) :
    (c.stored now edition lastUse).Lawful := by
  obtain ⟨hstate, hbudget⟩ := Credential.valid_state_budget h
  have hs := c.stored_storedAs now edition lastUse
  by_cases hlapse : ∃ u, c.validUntil = some u ∧ u ≤ now
  · obtain ⟨u, hu, hnow⟩ := hlapse
    obtain ⟨hlapsed, hsince⟩ := hs.lapsed u hu hnow
    exact ⟨by simp [hs.budget, hbudget, hlapsed], fun _ => by rw [hs.validUntil, hu, hsince]⟩
  · obtain ⟨hstanding, -⟩ := hs.standing fun u hu => by
      by_contra hnow
      exact hlapse ⟨u, hu, by omega⟩
    rcases hstate with hstate | hstate <;>
      exact ⟨by simp [hs.budget, hbudget, hstanding, hstate], fun hl => by simp [hstanding, hstate] at hl⟩

/-- What SET STATE writes is lawful, and of the same key (R20). -/
theorem Record.setStateWrite_lawful {r r1 : Record} {active : Bool} {now : Nat} (h : r.setStateWrite active now = some r1) :
    r1.key = r.key ∧ (r.Lawful → r1.Lawful) := by
  unfold Record.setStateWrite at h
  have hlapse (hs : r.state ≠ .spent) (hl : r.lapses now = true) : r.lapse.key = r.key ∧ (r.Lawful → r.lapse.Lawful) :=
    ⟨rfl, fun hr => Record.lawful_lapse (hr.budget_ne hs) hl⟩
  split at h
  · rename_i hs
    split_ifs at h with hl
    cases h
    exact hlapse (by simp [hs]) hl
  · rename_i hs
    split_ifs at h with hl
    cases h
    exact hlapse (by simp [hs]) hl
  · rename_i hs
    cases h
    split_ifs with hl
    · exact hlapse (by simp [hs]) hl
    · exact ⟨rfl, fun hr => ⟨by simpa using hr.budget_ne (by simp [hs]), fun hx => by cases hx⟩⟩
  · rename_i hs
    cases h
    split_ifs with hl
    · exact hlapse (by simp [hs]) hl
    · exact ⟨rfl, fun hr => ⟨by simpa using hr.budget_ne (by simp [hs]), fun hx => by cases hx⟩⟩
  · cases h
  · cases h

/-- What REPLENISH writes is lawful where its count is not 0, and of the same key (R21). -/
theorem Record.replenishWrite_lawful {r r1 : Record} {count : Option Nat} {now : Nat}
    (h : r.replenishWrite count now = some r1) : r1.key = r.key ∧ (count ≠ some 0 → r1.Lawful) := by
  unfold Record.replenishWrite at h
  have hlapse (hl : r.lapses now = true) :
      ({ r with budget := count } : Record).lapse.key = r.key
        ∧ (count ≠ some 0 → ({ r with budget := count } : Record).lapse.Lawful) :=
    ⟨rfl, fun hc => Record.lawful_lapse (r := { r with budget := count }) hc hl⟩
  have hkept (hs : r.state = .active ∨ r.state = .suspended) :
      ({ r with budget := count } : Record).key = r.key
        ∧ (count ≠ some 0 → ({ r with budget := count } : Record).Lawful) :=
    ⟨rfl, fun hc => by rcases hs with hs | hs <;> exact ⟨by simp [hc, hs], fun hx => by simp [hs] at hx⟩⟩
  dsimp only at h
  split at h
  · cases h
  · cases h
    split_ifs with hl
    · exact hlapse hl
    · exact ⟨rfl, fun hc => ⟨by simp [hc], fun hx => by cases hx⟩⟩
  · rename_i hs
    cases h
    split_ifs with hl
    · exact hlapse hl
    · exact hkept (.inl hs)
  · rename_i hs
    cases h
    split_ifs with hl
    · exact hlapse hl
    · exact hkept (.inr hs)

section UpkeepStep
variable {s : State} {q : UpkeepRequest}

theorem State.UpkeepStep.finish (s : State) (q : UpkeepRequest) (c : ResultCode) (bytes : List Byte) :
    s.UpkeepStep q (s.finish c bytes) :=
  .ends ((sameBut_finish s c bytes).mono (by simp)) rfl .same

theorem State.upkeepStep_putReplace {c : Credential} (hc : q.command = .put c) {w : Way} {r : Record}
    (h : s.store.search q.bucket c.key = some (w, r)) : s.UpkeepStep q (s.putReplace c q.bucket w r) := by
  obtain ⟨hslot, hkey⟩ := Store.search_some h
  refine .ends ((sameBut_putReplace s _ _ _ _).mono (by simp)) rfl ?_
  refine Store.Edit.rewritten (st := s.store) (nextEdition s.store.edition) hslot ?_ fun _ hchecked => ?_
  · exact (c.stored_storedAs _ _ _).key.trans hkey.symm
  · rw [hc] at hchecked
    exact Credential.lawful_stored hchecked _ _ _

theorem State.checkNearFull_store (s : State) : s.checkNearFull.store = s.store := by rw [State.checkNearFull_eq]

theorem State.upkeepStep_putPlace {c : Credential} (hc : q.command = .put c)
    (hphase : q.phase = .third ∨ (q.phase = .second ∧ s.absent q.bucket c.key)) {w : Way}
    (h : s.store.freeWay q.bucket = some w) : s.UpkeepStep q (s.putPlace c q.bucket w) :=
  .places (nextEdition s.store.edition) ((sameBut_putPlace s _ _ _).mono (by simp)) rfl hc hphase
    (Store.freeWay_some h) (c.stored_storedAs _ _ _).key (fun hv => Credential.lawful_stored hv _ _ _)
    (State.checkNearFull_store _)

theorem State.absent_of_search {b : Bucket} {k : Key} (h : s.store.search b k = none) : s.absent b k :=
  fun w r hs => Store.search_none h w r hs

/-- The phases of PUT CREDENTIAL (R15 to R18). -/
theorem State.upkeepStep_putPhase {c : Credential} (hc : q.command = .put c) :
    s.UpkeepStep q (s.putPhase c q.bucket q.phase) := by
  cases hp : q.phase with
  | first =>
    simp only [State.putPhase]
    split
    · exact State.upkeepStep_putReplace hc ‹_›
    · rename_i hsearch
      rw [← hc]
      refine .next fun c' hc' => ?_
      rw [hc] at hc'
      cases hc'
      exact ⟨State.absent_of_search hsearch, .inl ⟨hp, rfl, rfl⟩⟩
  | second =>
    simp only [State.putPhase]
    split
    · exact State.upkeepStep_putReplace hc ‹_›
    · rename_i hsearch
      split
      · exact State.upkeepStep_putPlace hc (.inr ⟨hp, State.absent_of_search hsearch⟩) ‹_›
      · rw [← hc]
        refine .next fun c' hc' => ?_
        rw [hc] at hc'
        cases hc'
        exact ⟨State.absent_of_search hsearch, .inr ⟨hp, rfl, rfl⟩⟩
  | third =>
    simp only [State.putPhase]
    split
    · exact State.upkeepStep_putPlace hc (.inl hp) ‹_›
    · exact .finish s q _ _

/-- The search of the other commands (R22): `act` and `absent` end the command. -/
theorem State.upkeepStep_searchPhase (hc : ∀ c, q.command ≠ .put c) {k : Key} {act : State → Way → Record → State}
    {absent : State → State}
    (hact : ∀ w r, s.store.slot q.bucket w = some r → s.UpkeepStep q (act s w r)) (habsent : s.UpkeepStep q (absent s)) :
    s.UpkeepStep q (s.searchPhase q.command k q.bucket q.phase act absent) := by
  unfold State.searchPhase
  split
  · rename_i hsearch
    exact hact _ _ (Store.search_some hsearch).1
  · split
    · exact .next fun c h => absurd h (hc c)
    · exact habsent

theorem State.upkeepStep_writes {b : Bucket} {w : Way} {old r : Record} (edition : Nat) (code : ResultCode)
    (bytes : List Byte) (hslot : s.store.slot b w = some old) (hkey : r.key = old.key)
    (hlawful : old.Lawful → q.command.Checked → r.Lawful) :
    s.UpkeepStep q
      (({ s with store := { s.store.write b w r with edition := edition } } : State).finish code bytes) :=
  .ends (((sameBut_store s _).mono (by simp)).then (sameBut_finish _ _ _) (by simp)) rfl
    (.rewritten edition hslot hkey hlawful)

theorem State.upkeepStep_setStateFound {active : Bool} {w : Way} {r : Record} (hslot : s.store.slot q.bucket w = some r) :
    s.UpkeepStep q (State.setStateFound active q.bucket s w r) := by
  unfold State.setStateFound
  split
  · exact .finish s q _ _
  · split
    · exact .finish s q _ _
    · rename_i hr1
      obtain ⟨hkey, hlawful⟩ := Record.setStateWrite_lawful hr1
      exact State.upkeepStep_writes (nextEdition s.store.edition) _ _ hslot hkey fun hr _ => hlawful hr

theorem State.upkeepStep_replenishFound {k : Key} {count : Option Nat} (hc : q.command = .replenish k count) {w : Way}
    {r : Record} (hslot : s.store.slot q.bucket w = some r) :
    s.UpkeepStep q (State.replenishFound count q.bucket s w r) := by
  unfold State.replenishFound
  split
  · exact .finish s q _ _
  · rename_i hr1
    obtain ⟨hkey, hlawful⟩ := Record.replenishWrite_lawful hr1
    exact State.upkeepStep_writes (nextEdition s.store.edition) _ _ hslot hkey fun _ hchecked =>
      hlawful (by rwa [hc] at hchecked)

theorem State.upkeepStep_upkeepTurn (s : State) (q : UpkeepRequest) : s.UpkeepStep q (s.upkeepTurn q) := by
  unfold State.upkeepTurn
  split
  · exact State.upkeepStep_putPhase ‹_›
  · rename_i hc
    exact State.upkeepStep_searchPhase (by simp [hc]) (fun _ _ _ => .finish s q _ _) (.finish s q _ _)
  · rename_i hc
    refine State.upkeepStep_searchPhase (by simp [hc]) (fun w r hslot => ?_) ?_
    · exact .ends (sameBut_dropFound s _ _ _ _) rfl (.freed hslot)
    · exact .ends ((sameBut_dropAbsent s _).mono (by simp)) rfl .same
  · rename_i hc
    exact State.upkeepStep_searchPhase (by simp [hc]) (fun _ _ => State.upkeepStep_setStateFound) (.finish s q _ _)
  · rename_i hc
    exact State.upkeepStep_searchPhase (by simp [hc]) (fun _ _ => State.upkeepStep_replenishFound hc) (.finish s q _ _)
  · exact .finish s q _ _

end UpkeepStep

/-! ### LOOKUP and SWEEP turns -/

/-- The decision's first step passes only an ACTIVE record (R86). -/
theorem Record.active_of_standing_none {r : Record} {now : Nat} (h : r.standing now = none) : r.state = .active := by
  unfold Record.standing at h
  split at h <;> first | assumption | cases h

theorem Record.standing_eq_lapse {r : Record} {now : Nat} :
    r.standing now = some .lapse ↔ r.state = .active ∧ r.lapses now = true := by
  unfold Record.standing
  cases r.state with
  | active =>
    by_cases hl : r.lapses now = true
    · simp [hl]
    · simp only [hl]
      cases r.validFrom with
      | none => simp
      | some v => by_cases hv : now < v <;> simp [hv]
  | _ => simp

/-- Only the first step lapses a record (R86). -/
theorem State.decision_eq_lapse {s : State} {en : Entry} {r : Record} (h : s.decision en r = .lapse) :
    r.state = .active ∧ r.lapses s.now = true := by
  unfold State.decision State.routeStep at h
  split at h
  · rename_i v hv
    rw [← Record.standing_eq_lapse, hv, h]
  · repeat' split at h
    all_goals cases h

theorem State.active_of_decision_grant {s : State} {en : Entry} {r : Record} {route : Route} {cont : Bool}
    (h : s.decision en r = .grant route cont) : r.state = .active := by
  unfold State.decision at h
  split at h
  · rename_i v hv
    subst h
    unfold Record.standing at hv
    repeat' split at hv
    all_goals simp at hv
  · exact Record.active_of_standing_none ‹_›

theorem Record.writeBack_key (r : Record) (cont : Bool) (origin now second : Nat) :
    (r.writeBack cont origin now second).key = r.key := by
  unfold Record.writeBack
  dsimp only
  split
  · split_ifs <;> rfl
  · rfl

theorem Record.reversed_key (r : Record) (g : Grant) (now : Nat) : (r.reversed g now).key = r.key := by
  unfold Record.reversed
  cases r.budget <;> cases g.budgetTaken <;> dsimp only <;> split_ifs <;> rfl

theorem State.answerAndFree_store (s : State) (e : Fin 64) (en : Entry) (r : Reply) :
    (s.answerAndFree e en r).store = s.store := by
  rw [State.answerAndFree_eq]
  exact State.post_store s e en r

theorem State.edit_takeDecision {s : State} (e : Fin 64) (en : Entry) {b : Bucket} {w : Way} {r : Record}
    (hslot : s.store.slot b w = some r) : s.store.Edit True (s.takeDecision e en b w r).store := by
  unfold State.takeDecision
  dsimp only
  split
  · rename_i hd
    obtain ⟨hactive, hlapses⟩ := State.decision_eq_lapse hd
    rw [State.answerAndFree_store]
    exact .rewritten (st := s.store) s.store.edition hslot rfl fun hr _ =>
      Record.lawful_lapse (hr.budget_ne (by simp [hactive])) hlapses
  · rw [State.answerAndFree_store]
    exact .same
  · rename_i hd
    exact .rewritten (st := s.store) s.store.edition hslot (Record.writeBack_key _ _ _ _ _) fun hr _ =>
      Record.lawful_writeBack hr (State.active_of_decision_grant hd) _ _ _ _

theorem Store.edit_reverse (st : Store) (en : Entry) (now : Nat) : st.Edit True (st.reverse en now) := by
  unfold Store.reverse
  split
  · split
    · rename_i hslot
      split
      · exact .rewritten (st := st) st.edition hslot (Record.reversed_key _ _ _) fun hr _ => Record.lawful_reversed hr _ _
      · exact .same
    · exact .same
  · exact .same

/-- The turn of a LOOKUP request edits the store. -/
theorem State.edit_lookupTurn (s : State) (q : LookupRequest) : s.store.Edit True (s.lookupTurn q).store := by
  unfold State.lookupTurn
  split
  · exact .same
  · split
    · unfold State.probeTurn
      split
      · rename_i hsearch
        exact State.edit_takeDecision _ _ (Store.search_some hsearch).1
      · repeat' split
        all_goals
          first
          | (rw [State.answerAndFree_store]; exact .same)
          | exact .same
    · exact Store.edit_reverse s.store _ _

theorem State.edit_sweepWay (b : Bucket) (s : State) (w : Way) : s.store.Edit True (s.sweepWay b w).store := by
  unfold State.sweepWay
  split
  · exact .same
  · rename_i r hslot
    split
    · rename_i hstate
      split
      · rename_i hlapses
        exact .rewritten (st := s.store) s.store.edition hslot rfl fun hr _ =>
          Record.lawful_lapse (hr.budget_ne (by rcases hstate with h | h <;> simp [h])) hlapses
      · exact .same
    · split
      · exact .freed hslot
      · exact .same

/-- A sweep turn keeps what its edits of the store keep. -/
theorem State.sweepTurn_keeps {bs : List Block} {I : State → Prop} (hI : RestsOn bs I)
    (hedit : ∀ u v : State, u.store.Edit True v.store → SameBut [.store] u v → I u → I v) {s : State} (hs : I s)
    (b : Bucket) : I (s.sweepTurn b) := by
  unfold State.sweepTurn
  refine hI.keeps (sameBut_advanceSweep _ b) ?_ (by simp)
  split
  · exact List.foldlRecOn _ _ hs fun u hu w _ => hedit u _ (State.edit_sweepWay b u w) (sameBut_sweepWay b u w) hu
  · exact hs

end Sys2Proof.Machine

/-! ## The occupancy count (R9) -/

namespace Sys2Proof.Machine

theorem storeKept_restsOn : RestsOn [.store] State.StoreKept := by
  intro s t h hs
  have hstore : t.store = s.store := h .store (by simp)
  rwa [State.storeKept_iff, hstore]

theorem State.storeKept_upkeepTurn {s : State} (hs : s.StoreKept) (q : UpkeepRequest) : (s.upkeepTurn q).StoreKept := by
  have hstep := State.upkeepStep_upkeepTurn s q
  generalize s.upkeepTurn q = t at hstep ⊢
  cases hstep with
  | next => exact hs
  | ends _ _ hedit => exact hedit.kept hs
  | places edition _ _ _ _ hfree _ _ hstore =>
    rw [State.storeKept_iff, hstore]
    exact Store.kept_place hs hfree _

/-- Settles O52: only a bank's turn writes the store; it rewrites or frees an occupied slot, or places in a FREE one. -/
theorem stepsKeepTheOccupancy : Obligations.StepsKeepTheOccupancy := by
  intro s t hs h
  refine storeKept_restsOn.keeps_step (fun u => ⟨(by decide : Table.wf 16384 ([] : List (Nat × Record))), rfl⟩) (fun u hu => hu) (fun u hu => hu)
    (fun i u v hr hw hu hv => ?_) hs h
  cases i with
  | bankTurn n =>
    exact storeKept_restsOn.keeps_bankTurn (by simp) (fun u q hu => (State.edit_lookupTurn u q).kept hu)
      (fun _ q hu => State.storeKept_upkeepTurn hu q)
      (fun _ b hu => State.sweepTurn_keeps storeKept_restsOn (fun _ _ hedit _ hu => hedit.kept hu) hu b) hu hv
  | _ => simp [blocksWritten, pollBlocks, isReset] at hw hr

end Sys2Proof.Machine

/-! ## The requests that wait in the banks (R27, R28) -/

namespace Sys2Proof.Machine

/-- Where two families of lists differ in one member, so do their concatenations. -/
theorem flatMap_finRange_perm {n : Nat} {α : Type} {f g : Fin n → List α} (i : Fin n) (h : ∀ j ≠ i, g j = f j) :
    ∃ rest, ((List.finRange n).flatMap f).Perm (f i ++ rest) ∧ ((List.finRange n).flatMap g).Perm (g i ++ rest) := by
  have hperm := List.perm_cons_erase (List.mem_finRange i)
  have hrest : ((List.finRange n).erase i).flatMap g = ((List.finRange n).erase i).flatMap f :=
    List.flatMap_congr fun j hj => h j ((List.nodup_finRange n).mem_erase_iff.1 hj).1
  refine ⟨((List.finRange n).erase i).flatMap f, ?_, ?_⟩
  · simpa using hperm.flatMap_right f
  · simpa [hrest] using hperm.flatMap_right g

theorem Vector.toList_flatMap {n : Nat} {α β : Type} (v : Vector α n) (f : α → List β) :
    v.toList.flatMap f = (List.finRange n).flatMap fun i => f v[i] := by
  have hv : v.toList = (List.finRange n).map fun i => v[i] := by
    apply List.ext_getElem <;> simp
  rw [hv, List.flatMap_map]

theorem State.upkeepWaiting_eq (s : State) : s.upkeepWaiting = (List.finRange 4).flatMap fun n => s.banks[n].upkeep :=
  Vector.toList_flatMap _ _

/-- One bank set anew: the requests of the others stand. -/
theorem State.upkeepWaiting_setBank (s : State) (n : Fin 4) (b : Bank) :
    ∃ rest, s.upkeepWaiting.Perm (s.banks[n].upkeep ++ rest)
      ∧ ({ s with banks := s.banks.set n b } : State).upkeepWaiting.Perm (b.upkeep ++ rest) := by
  simp only [State.upkeepWaiting_eq]
  obtain ⟨rest, hold, hnew⟩ := flatMap_finRange_perm (f := fun m => s.banks[m].upkeep)
    (g := fun m => (s.banks.set n b)[m].upkeep) n fun j hj => by
      simp [Vector.getElem_set_ne, Fin.val_ne_of_ne (Ne.symm hj)]
  exact ⟨rest, hold, by simpa using hnew⟩

theorem State.lookupWaiting_setBank (s : State) (n : Fin 4) (b : Bank) :
    ∃ rest, s.lookupWaiting.Perm (s.banks[n].lookup.map (n, ·) ++ rest)
      ∧ ({ s with banks := s.banks.set n b } : State).lookupWaiting.Perm (b.lookup.map (n, ·) ++ rest) := by
  simp only [State.lookupWaiting]
  obtain ⟨rest, hold, hnew⟩ := flatMap_finRange_perm (f := fun m => s.banks[m].lookup.map (m, ·))
    (g := fun m => (s.banks.set n b)[m].lookup.map (m, ·)) n fun j hj => by
      simp [Vector.getElem_set_ne, Fin.val_ne_of_ne (Ne.symm hj)]
  exact ⟨rest, hold, by simpa using hnew⟩

theorem State.upkeepWaiting_queueUpkeep (s : State) (q : UpkeepRequest) :
    (s.queueUpkeep q).upkeepWaiting.Perm (q :: s.upkeepWaiting) := by
  obtain ⟨rest, hold, hnew⟩ := s.upkeepWaiting_setBank (bankOf q.bucket)
    { s.banks[bankOf q.bucket] with upkeep := s.banks[bankOf q.bucket].upkeep ++ [q] }
  refine hnew.trans ?_
  simpa using List.perm_middle.trans (hold.symm.cons q)

theorem State.lookupWaiting_queueLookup (s : State) (q : LookupRequest) :
    (s.queueLookup q).lookupWaiting.Perm ((bankOf q.bucket, q) :: s.lookupWaiting) := by
  obtain ⟨rest, hold, hnew⟩ := s.lookupWaiting_setBank (bankOf q.bucket)
    { s.banks[bankOf q.bucket] with lookup := s.banks[bankOf q.bucket].lookup ++ [q] }
  refine hnew.trans ?_
  simpa using List.perm_middle.trans (hold.symm.cons _)

theorem State.upkeepWaiting_of_same {bs : List Block} {s t : State} (h : SameBut bs s t)
    (hbs : Block.upkeep ∉ bs := by decide) : t.upkeepWaiting = s.upkeepWaiting := by
  have hmap : t.banks.map Bank.upkeep = s.banks.map Bank.upkeep := h .upkeep hbs
  rw [State.upkeepWaiting_eq, State.upkeepWaiting_eq]
  exact List.flatMap_congr fun n _ => Vector.get_of_map_eq hmap n

theorem State.lookupWaiting_of_same {bs : List Block} {s t : State} (h : SameBut bs s t)
    (hbs : Block.lookup ∉ bs := by decide) : t.lookupWaiting = s.lookupWaiting := by
  have hmap : t.banks.map Bank.lookup = s.banks.map Bank.lookup := h .lookup hbs
  simp only [State.lookupWaiting]
  exact List.flatMap_congr fun n _ => by rw [Vector.get_of_map_eq hmap n]

theorem State.upkeepWaiting_of_forall {s : State} (h : ∀ n : Fin 4, s.banks[n].upkeep = []) : s.upkeepWaiting = [] := by
  rw [State.upkeepWaiting_eq]
  exact List.flatMap_eq_nil_iff.2 fun n _ => h n

theorem State.lookupWaiting_of_forall {s : State} (h : ∀ n : Fin 4, s.banks[n].lookup = []) : s.lookupWaiting = [] := by
  exact List.flatMap_eq_nil_iff.2 fun n _ => by simp only [h n, List.map_nil]

theorem State.coldReset_banks (s : State) (n : Fin 4) : s.coldReset.banks[n] = coldBank := by
  simp [State.coldReset, State.cold]

theorem State.warmReset_banks (s : State) (n : Fin 4) : s.warmReset.banks[n] = s.banks[n].warm := by
  simp [State.warmReset, State.resetService]

/-- The UPKEEP request that a turn takes out of its bank. -/
def Served.upkeeps : Served → List UpkeepRequest
  | .upkeep q => [q]
  | _ => []

/-- The LOOKUP request that a turn of bank `n` takes out of it. -/
def Served.lookups (n : Fin 4) : Served → List (Fin 4 × LookupRequest)
  | .lookup q => [(n, q)]
  | _ => []

/-- A turn takes what it serves from the head of its queue. -/
theorem Bank.turn_queues (b : Bank) (passing : Bool) :
    b.upkeep = (b.turn passing).2.upkeeps ++ (b.turn passing).1.upkeep
      ∧ ∀ n, b.lookup.map (n, ·) = (b.turn passing).2.lookups n ++ (b.turn passing).1.lookup.map (n, ·) := by
  rw [Bank.turn_eq]
  cases b.due with
  | idle => exact ⟨rfl, fun _ => rfl⟩
  | lookup => cases b.lookup with
    | nil => simp [Served.upkeeps, Served.lookups]
    | cons => simp [Served.upkeeps, Served.lookups]
  | upkeep => cases b.upkeep with
    | nil => simp [Served.upkeeps, Served.lookups]
    | cons => simp [Served.upkeeps, Served.lookups]
  | sweep => cases b.sweep with
    | cons => simp [Served.upkeeps, Served.lookups]
    | nil => cases passing with
      | true => simp [Served.upkeeps, Served.lookups]
      | false => cases b.upkeep with
        | nil => simp [Served.upkeeps, Served.lookups]
        | cons => simp [Served.upkeeps, Served.lookups]

/-- The state in which a turn of bank `n` acts: the request it serves has left its queue. -/
structure State.Popped (s : State) (n : Fin 4) (x : Served) (u : State) : Prop where
  same : SameBut [.lookup, .upkeep, .patterns] s u
  upkeep : s.upkeepWaiting.Perm (x.upkeeps ++ u.upkeepWaiting)
  lookup : s.lookupWaiting.Perm (x.lookups n ++ u.lookupWaiting)

/-- A bank's turn serves in the state its request has left. -/
theorem execBankTurn_cases {n : Fin 4} {s t : State} (h : execBankTurn n s = .next t) :
    t = s ∨ ∃ x u, s.Popped n x u ∧ t = u.serve x := by
  unfold execBankTurn at h
  split at h
  · cases h; exact .inl rfl
  · cases h
    obtain ⟨hupkeep, hlookup⟩ := s.banks[n].turn_queues (s.sweeper.state == .passing)
    refine .inr ⟨_, _, ⟨fun b hb => ?_, ?_, ?_⟩, rfl⟩
    · cases b with
      | lookup | upkeep | patterns => simp at hb
      | engine => exact Iff.rfl
      | _ => rfl
    · obtain ⟨rest, hold, hnew⟩ := s.upkeepWaiting_setBank n (s.banks[n].turn (s.sweeper.state == .passing)).1
      refine hold.trans ?_
      rw [hupkeep, List.append_assoc]
      exact hnew.symm.append_left _
    · obtain ⟨rest, hold, hnew⟩ := s.lookupWaiting_setBank n (s.banks[n].turn (s.sweeper.state == .passing)).1
      refine hold.trans ?_
      rw [hlookup n, List.append_assoc]
      exact hnew.symm.append_left _

end Sys2Proof.Machine

/-! ## Lawful records (R7, R8) -/

namespace Sys2Proof.Machine

theorem State.recordsKept_iff (s : State) :
    s.RecordsKept ↔ s.store.Lawful ∧ ∀ q ∈ s.upkeepWaiting, q.command.Checked := by
  refine and_congr_right fun _ => ?_
  simp only [State.upkeepWaiting, List.mem_flatMap, forall_exists_index, and_imp]
  exact ⟨fun h q b hb hq => h b hb q hq, fun h b hb q hq => h q b hb hq⟩

theorem recordsKept_restsOn : RestsOn [.store, .upkeep] State.RecordsKept := by
  intro s t h hs
  have hstore : t.store = s.store := h .store (by simp)
  rw [State.recordsKept_iff] at hs ⊢
  rwa [hstore, State.upkeepWaiting_eq, List.flatMap_congr fun n _ => Vector.get_of_map_eq (h .upkeep (by simp)) n,
    ← State.upkeepWaiting_eq]

theorem State.recordsKept_queueUpkeep {s : State} (hs : s.RecordsKept) {q : UpkeepRequest} (hq : q.command.Checked) :
    (s.queueUpkeep q).RecordsKept := by
  rw [State.recordsKept_iff] at hs ⊢
  refine ⟨hs.1, fun q' hq' => ?_⟩
  rcases List.mem_cons.1 ((s.upkeepWaiting_queueUpkeep q).subset hq') with rfl | hq'
  · exact hq
  · exact hs.2 q' hq'

/-- An edit of the store, the queues standing. -/
theorem State.recordsKept_edit {C : Prop} {s t : State} (hs : s.RecordsKept) (hedit : s.store.Edit C t.store) (hC : C)
    (hwaiting : t.upkeepWaiting = s.upkeepWaiting) : t.RecordsKept := by
  rw [State.recordsKept_iff] at hs ⊢
  exact ⟨hedit.lawful hs.1 hC, hwaiting ▸ hs.2⟩

theorem State.recordsKept_upkeepTurn {s : State} (hs : s.RecordsKept) {q : UpkeepRequest} (hq : q.command.Checked) :
    (s.upkeepTurn q).RecordsKept := by
  have hstep := State.upkeepStep_upkeepTurn s q
  generalize s.upkeepTurn q = t at hstep ⊢
  cases hstep with
  | next => exact State.recordsKept_queueUpkeep hs hq
  | ends hsame _ hedit => exact State.recordsKept_edit hs hedit hq (State.upkeepWaiting_of_same hsame)
  | places edition hsame _ hput _ _ _ hlawful hstore =>
    rw [hput] at hq
    rw [State.recordsKept_iff] at hs ⊢
    rw [hstore, State.upkeepWaiting_of_same hsame]
    exact ⟨hs.1.write _ _ (hlawful hq), hs.2⟩

theorem State.recordsKept_popped {s u : State} {n : Fin 4} {x : Served} (hs : s.RecordsKept) (h : s.Popped n x u) :
    u.RecordsKept ∧ ∀ q ∈ x.upkeeps, q.command.Checked := by
  have hstore : u.store = s.store := h.same .store (by simp)
  rw [State.recordsKept_iff] at hs ⊢
  rw [hstore]
  exact ⟨⟨hs.1, fun q hq => hs.2 q (h.upkeep.symm.subset (List.mem_append_right _ hq))⟩,
    fun q hq => hs.2 q (h.upkeep.symm.subset (List.mem_append_left _ hq))⟩

theorem execBankTurn_recordsKept {n : Fin 4} {s t : State} (hs : s.RecordsKept) (h : execBankTurn n s = .next t) :
    t.RecordsKept := by
  rcases execBankTurn_cases h with rfl | ⟨x, u, hpop, rfl⟩
  · exact hs
  · obtain ⟨hu, hserved⟩ := State.recordsKept_popped hs hpop
    cases x with
    | nothing => exact hu
    | lookup q =>
      exact State.recordsKept_edit hu (u.edit_lookupTurn q) trivial (State.upkeepWaiting_of_same (sameBut_lookupTurn u q))
    | upkeep q => exact State.recordsKept_upkeepTurn hu (hserved q (by simp [Served.upkeeps]))
    | sweep b =>
      exact State.sweepTurn_keeps recordsKept_restsOn
        (fun _ _ hedit hsame hv => State.recordsKept_edit hv hedit trivial (State.upkeepWaiting_of_same hsame)) hu b

theorem State.storeCommand_recordsKept {fell : Fall} {args : List Byte} {c : Option StoreCommand} {s t : State}
    (hs : s.RecordsKept) (hc : ∀ x, c = some x → x.Checked) (h : s.storeCommand fell args c = .next t) :
    t.RecordsKept :=
  recordsKept_restsOn.keeps_command hs h fun u _ hu => by
    cases c with
    | none => exact hu
    | some x => exact State.recordsKept_queueUpkeep hu (hc x rfl)

/-- A store command that is read has passed its check (R13, R14, R21). -/
theorem readPut_checked {args : List Byte} {x : StoreCommand} (h : readPut args = some x) : x.Checked := by
  unfold readPut at h
  split at h
  · split at h
    · cases h; assumption
    · cases h
  · cases h

theorem readReplenish_checked {args : List Byte} {x : StoreCommand} (h : readReplenish args = some x) : x.Checked := by
  unfold readReplenish at h
  split at h
  · split at h
    · cases h; simp [StoreCommand.Checked]
    · split at h
      · cases h
      · cases h; simpa [StoreCommand.Checked]
    · cases h
  · cases h

theorem readGet_checked {args : List Byte} {x : StoreCommand} (h : readGet args = some x) : x.Checked := by
  unfold readGet at h
  split_ifs at h
  obtain ⟨k, -, rfl⟩ := Option.map_eq_some_iff.1 h
  trivial

theorem readDrop_checked {args : List Byte} {x : StoreCommand} (h : readDrop args = some x) : x.Checked := by
  unfold readDrop at h
  split_ifs at h
  obtain ⟨k, -, rfl⟩ := Option.map_eq_some_iff.1 h
  trivial

theorem readSetState_checked {args : List Byte} {x : StoreCommand} (h : readSetState args = some x) : x.Checked := by
  unfold readSetState at h
  split_ifs at h
  split at h
  · cases h; trivial
  · cases h

theorem readReadSlot_checked {args : List Byte} {x : StoreCommand} (h : readReadSlot args = some x) : x.Checked := by
  unfold readReadSlot at h
  split_ifs at h
  cases h
  trivial

/-- Lawful records and no waiting store command. -/
theorem State.recordsKept_of_idle {s : State} (hl : s.store.Lawful) (hidle : ∀ n : Fin 4, s.banks[n].upkeep = []) :
    s.RecordsKept := by
  rw [State.recordsKept_iff, State.upkeepWaiting_of_forall hidle]
  exact ⟨hl, by simp⟩

/-- Settles O53: a store command waits only after its check, and every record a turn writes or places is lawful. -/
theorem stepsKeepRecordsLawful : Obligations.StepsKeepRecordsLawful := by
  intro s t hs h
  refine recordsKept_restsOn.keeps_step
    (fun u => State.recordsKept_of_idle (fun x hx => absurd hx List.not_mem_nil) fun n => by
      rw [State.coldReset_banks]; rfl)
    (fun u hu => State.recordsKept_of_idle hu.1 fun n => by rw [State.warmReset_banks]; rfl) (fun u hu => hu)
    (fun i u v hr hw hu hv => ?_) hs h
  cases i with
  | bankTurn n => exact execBankTurn_recordsKept hu hv
  | putCredential fell args => exact State.storeCommand_recordsKept hu (fun _ => readPut_checked) hv
  | replenish fell args => exact State.storeCommand_recordsKept hu (fun _ => readReplenish_checked) hv
  | getCredential fell args => exact State.storeCommand_recordsKept hu (fun _ => readGet_checked) hv
  | dropCredential fell args => exact State.storeCommand_recordsKept hu (fun _ => readDrop_checked) hv
  | setState fell args => exact State.storeCommand_recordsKept hu (fun _ => readSetState_checked) hv
  | readSlot fell args => exact State.storeCommand_recordsKept hu (fun _ => readReadSlot_checked) hv
  | _ => simp [blocksWritten, pollBlocks, isReset] at hw hr

end Sys2Proof.Machine

/-! ## Each key in at most one slot (R2, R3, R15 to R17) -/

namespace Sys2Proof.Machine

/-- Every record stands in a bucket of its key, no key stands in two slots, and the table is canonical. -/
structure Store.Housed (st : Store) : Prop where
  bucket : ∀ b w r, st.slot b w = some r → b = r.key.home ∨ b = r.key.alternate
  unique : ∀ b w r b' w' r', st.slot b w = some r → st.slot b' w' = some r' → r.key = r'.key → (b, w) = (b', w')
  wf : Table.wf 16384 st.slots

/-- At most one phase waits, only while the engine is WORKING, and it fits its command. -/
structure State.OnePhase (s : State) : Prop where
  length : s.upkeepWaiting.length = if s.port.engine = .working then 1 else 0
  fits : ∀ q ∈ s.upkeepWaiting, s.PhaseFits q

theorem State.keysKept_iff (s : State) : s.KeysKept ↔ s.store.Housed ∧ s.OnePhase := by
  constructor
  · rintro ⟨hbucket, hunique, hlength, hfits, hwf⟩
    exact ⟨⟨hbucket, hunique, hwf⟩, ⟨hlength, hfits⟩⟩
  · rintro ⟨⟨hbucket, hunique, hwf⟩, ⟨hlength, hfits⟩⟩
    exact ⟨hbucket, hunique, hlength, hfits, hwf⟩

/-! ### Stores -/

theorem Store.Edit.housed {C : Prop} {st st' : Store} (h : st.Edit C st') (hst : st.Housed) : st'.Housed where
  bucket b w r hr := by
    obtain ⟨old, hold, hkey⟩ := h.key_of_slot hst.wf hr
    rw [← hkey]
    exact hst.bucket b w old hold
  unique b w r b' w' r' hr hr' hkeys := by
    obtain ⟨old, hold, hkey⟩ := h.key_of_slot hst.wf hr
    obtain ⟨old', hold', hkey'⟩ := h.key_of_slot hst.wf hr'
    exact hst.unique b w old b' w' old' hold hold' (hkey.trans (hkeys.trans hkey'.symm))
  wf := h.wf hst.wf

/-- An edit puts no key where it was absent. -/
theorem State.absent_of_edit {C : Prop} {s t : State} (h : s.store.Edit C t.store) (hwf : Table.wf 16384 s.store.slots)
    {b : Bucket} {k : Key} (ha : s.absent b k) : t.absent b k := fun w r hr => by
  obtain ⟨old, hold, hkey⟩ := h.key_of_slot hwf hr
  rw [← hkey]
  exact ha w old hold

theorem State.phaseFits_of_absent {s t : State} (h : ∀ b k, s.absent b k → t.absent b k) {q : UpkeepRequest}
    (hq : s.PhaseFits q) : t.PhaseFits q := by
  unfold State.PhaseFits at hq ⊢
  split
  · simpa [*] using hq
  · rename_i hc hp
    simp only [hc, hp] at hq
    exact ⟨hq.1, h _ _ hq.2⟩
  · rename_i hc hp
    simp only [hc, hp] at hq
    exact ⟨hq.1, h _ _ hq.2.1, h _ _ hq.2.2⟩
  · trivial

/-- A record placed in a bucket of its key where neither bucket holds the key. -/
theorem Store.housed_place {s : State} (hst : s.store.Housed) {b : Bucket} {w : Way} {r : Record}
    (hb : b = r.key.home ∨ b = r.key.alternate) (hhome : s.absent r.key.home r.key)
    (halternate : s.absent r.key.alternate r.key) : (s.store.write b w r).Housed := by
  have habsent : ∀ b' w' r', s.store.slot b' w' = some r' → r'.key ≠ r.key := fun b' w' r' hr' hkey => by
    rcases hst.bucket b' w' r' hr' with rfl | rfl
    · rw [hkey] at hr'; exact hhome w' r' hr' hkey
    · rw [hkey] at hr'; exact halternate w' r' hr' hkey
  have hslot : ∀ b' w' r', (s.store.write b w r).slot b' w' = some r' →
      ((b', w') = (b, w) ∧ r' = r) ∨ ((b', w') ≠ (b, w) ∧ s.store.slot b' w' = some r') := fun b' w' r' hr' => by
    by_cases hbw : (b', w') = (b, w)
    · cases hbw
      rw [Store.slot_write] at hr'
      exact .inl ⟨rfl, (Option.some.inj hr').symm⟩
    · rw [Store.slot_write_other _ _ hbw] at hr'
      exact .inr ⟨hbw, hr'⟩
  refine ⟨fun b' w' r' hr' => ?_, fun b1 w1 r1 b2 w2 r2 h1 h2 hkeys => ?_, Table.wf_put hst.wf (slotNumber_lt _ _) _⟩
  · rcases hslot b' w' r' hr' with ⟨hbw, rfl⟩ | ⟨-, hr'⟩
    · cases hbw; exact hb
    · exact hst.bucket b' w' r' hr'
  · rcases hslot b1 w1 r1 h1 with ⟨hbw1, rfl⟩ | ⟨-, g1⟩ <;> rcases hslot b2 w2 r2 h2 with ⟨hbw2, rfl⟩ | ⟨-, g2⟩
    · exact hbw1.trans hbw2.symm
    · exact absurd hkeys.symm (habsent b2 w2 r2 g2)
    · exact absurd hkeys (habsent b1 w1 r1 g1)
    · exact hst.unique b1 w1 r1 b2 w2 r2 g1 g2 hkeys

/-! ### States -/

theorem keysKept_restsOn : RestsOn [.store, .upkeep, .engine] State.KeysKept := by
  intro s t h hs
  have hstore : t.store = s.store := h .store (by simp)
  have hengine : t.port.engine = .working ↔ s.port.engine = .working := h .engine (by simp)
  have hwaiting : t.upkeepWaiting = s.upkeepWaiting := by
    rw [State.upkeepWaiting_eq, State.upkeepWaiting_eq]
    exact List.flatMap_congr fun n _ => Vector.get_of_map_eq (h .upkeep (by simp)) n
  rw [State.keysKept_iff] at hs ⊢
  obtain ⟨hhoused, hlength, hfits⟩ := hs
  refine ⟨hstore ▸ hhoused, by simpa only [hwaiting, hengine] using hlength, fun q hq => ?_⟩
  rw [hwaiting] at hq
  exact State.phaseFits_of_absent (fun b k ha w r hr => ha w r (by rwa [hstore] at hr)) (hfits q hq)

/-- An edit of the store, queues and engine standing. -/
theorem State.keysKept_edit {C : Prop} {bs : List Block} {s t : State} (hs : s.KeysKept)
    (hedit : s.store.Edit C t.store) (hsame : SameBut bs s t) (hupkeep : Block.upkeep ∉ bs := by decide)
    (hengine : Block.engine ∉ bs := by decide) : t.KeysKept := by
  have hworking : t.port.engine = .working ↔ s.port.engine = .working := hsame .engine hengine
  have hwaiting := State.upkeepWaiting_of_same hsame hupkeep
  rw [State.keysKept_iff] at hs ⊢
  obtain ⟨hhoused, hlength, hfits⟩ := hs
  refine ⟨hedit.housed hhoused, by simpa only [hwaiting, hworking] using hlength, fun q hq => ?_⟩
  rw [hwaiting] at hq
  exact State.phaseFits_of_absent (fun _ _ => State.absent_of_edit hedit hhoused.wf) (hfits q hq)

/-- A state with no waiting phase, its engine outside WORKING. -/
theorem State.keysKept_of_none {s : State} (hhoused : s.store.Housed) (hwaiting : s.upkeepWaiting = [])
    (hengine : s.port.engine ≠ .working) : s.KeysKept :=
  s.keysKept_iff.2 ⟨hhoused, by simp [hwaiting, hengine], by simp [hwaiting]⟩

/-- The one phase joins an empty queue. -/
theorem State.keysKept_queueUpkeep {s : State} (hhoused : s.store.Housed) (hwaiting : s.upkeepWaiting = [])
    (hengine : s.port.engine = .working) {q : UpkeepRequest} (hq : s.PhaseFits q) : (s.queueUpkeep q).KeysKept := by
  have hone : (s.queueUpkeep q).upkeepWaiting = [q] :=
    List.perm_singleton.1 (by simpa [hwaiting] using s.upkeepWaiting_queueUpkeep q)
  refine (State.keysKept_iff _).2 ⟨hhoused, ?_, ?_⟩
  · rw [hone, if_pos (by exact hengine)]; rfl
  · rw [hone]
    exact fun q' hq' => by cases List.mem_singleton.1 hq'; exact hq

theorem State.keysKept_startWork {s : State} (hs : s.KeysKept) (hengine : s.port.engine ≠ .working)
    (cleared : BitVec 8) (c : StoreCommand) : (s.startWork cleared c).KeysKept := by
  obtain ⟨hhoused, hlength, -⟩ := s.keysKept_iff.1 hs
  rw [if_neg hengine] at hlength
  refine State.keysKept_queueUpkeep
    (s := { s with port := { s.port with engine := .working }, attention := s.attention.pulse cleared }) hhoused
    (List.eq_nil_of_length_eq_zero hlength) rfl ?_
  cases c with
  | put c => rfl
  | _ => trivial

/-- The served request of the one phase that waited: none other waits, and its phase fits. -/
theorem State.served_upkeep {s u : State} {n : Fin 4} {q : UpkeepRequest} (hs : s.KeysKept)
    (h : s.Popped n (.upkeep q) u) :
    u.store.Housed ∧ u.PhaseFits q ∧ u.upkeepWaiting = [] ∧ u.port.engine = .working := by
  obtain ⟨hhoused, hlength, hfits⟩ := s.keysKept_iff.1 hs
  have hstore : u.store = s.store := h.same .store (by simp)
  have hengine : u.port.engine = .working ↔ s.port.engine = .working := h.same .engine (by simp)
  have hperm : s.upkeepWaiting.Perm (q :: u.upkeepWaiting) := h.upkeep
  rw [hperm.length_eq, List.length_cons] at hlength
  by_cases hw : s.port.engine = .working
  · rw [if_pos hw] at hlength
    refine ⟨hstore ▸ hhoused, ?_, List.eq_nil_of_length_eq_zero (by omega), hengine.2 hw⟩
    exact State.phaseFits_of_absent (fun b k ha w r hr => ha w r (by rwa [hstore] at hr))
      (hfits q (hperm.symm.subset List.mem_cons_self))
  · rw [if_neg hw] at hlength
    omega

theorem State.keysKept_upkeepTurn {s : State} {q : UpkeepRequest} (hhoused : s.store.Housed) (hfits : s.PhaseFits q)
    (hwaiting : s.upkeepWaiting = []) (hengine : s.port.engine = .working) : (s.upkeepTurn q).KeysKept := by
  have hstep := State.upkeepStep_upkeepTurn s q
  generalize s.upkeepTurn q = t at hstep ⊢
  cases hstep with
  | @next b p hput =>
    refine State.keysKept_queueUpkeep hhoused hwaiting hengine ?_
    cases hc : q.command with
    | put c =>
      obtain ⟨habsent, ⟨hp, rfl, rfl⟩ | ⟨hp, rfl, rfl⟩⟩ := hput c hc
      · have hb : q.bucket = c.key.alternate := by simpa only [State.PhaseFits, hc, hp] using hfits
        exact ⟨rfl, hb ▸ habsent⟩
      · have hb : q.bucket = c.key.home ∧ s.absent c.key.alternate c.key := by
          simpa only [State.PhaseFits, hc, hp] using hfits
        exact ⟨rfl, hb.1 ▸ habsent, hb.2⟩
    | _ => trivial
  | ends hsame hdone hedit =>
    exact State.keysKept_of_none (hedit.housed hhoused) ((State.upkeepWaiting_of_same hsame).trans hwaiting) (by simp [hdone])
  | @places t c w r edition hsame hdone hput hphase hfree hkey _ hstore =>
    refine State.keysKept_of_none ?_ ((State.upkeepWaiting_of_same hsame).trans hwaiting) (by simp [hdone])
    have hplaced : (s.store.write q.bucket w r).Housed := by
      rcases hphase with hp | ⟨hp, habsent⟩
      · have hb : q.bucket = c.key.alternate ∧ s.absent c.key.home c.key ∧ s.absent c.key.alternate c.key := by
          simpa only [State.PhaseFits, hput, hp] using hfits
        rw [← hkey] at hb
        exact Store.housed_place hhoused (.inr hb.1) hb.2.1 hb.2.2
      · have hb : q.bucket = c.key.home ∧ s.absent c.key.alternate c.key := by
          simpa only [State.PhaseFits, hput, hp] using hfits
        rw [← hkey] at hb habsent
        exact Store.housed_place hhoused (.inl hb.1) (hb.1 ▸ habsent) hb.2
    rw [hstore]
    exact ⟨hplaced.bucket, hplaced.unique, hplaced.wf⟩

/-- A turn that takes no UPKEEP request leaves the phase waiting. -/
theorem State.keysKept_popped {s u : State} {n : Fin 4} {x : Served} (hs : s.KeysKept) (h : s.Popped n x u)
    (hx : x.upkeeps = []) : u.KeysKept := by
  obtain ⟨hhoused, hlength, hfits⟩ := s.keysKept_iff.1 hs
  have hstore : u.store = s.store := h.same .store (by simp)
  have hengine : u.port.engine = .working ↔ s.port.engine = .working := h.same .engine (by simp)
  have hperm : s.upkeepWaiting.Perm u.upkeepWaiting := by simpa [hx] using h.upkeep
  refine u.keysKept_iff.2 ⟨hstore ▸ hhoused, by simpa only [← hperm.length_eq, hengine] using hlength, fun q hq => ?_⟩
  exact State.phaseFits_of_absent (fun b k ha w r hr => ha w r (by rwa [hstore] at hr)) (hfits q (hperm.symm.subset hq))

theorem execBankTurn_keysKept {n : Fin 4} {s t : State} (hs : s.KeysKept) (h : execBankTurn n s = .next t) :
    t.KeysKept := by
  rcases execBankTurn_cases h with rfl | ⟨x, u, hpop, rfl⟩
  · exact hs
  · cases x with
    | upkeep q =>
      obtain ⟨hhoused, hfits, hwaiting, hengine⟩ := State.served_upkeep hs hpop
      exact State.keysKept_upkeepTurn hhoused hfits hwaiting hengine
    | nothing => exact State.keysKept_popped hs hpop rfl
    | lookup q =>
      exact State.keysKept_edit (State.keysKept_popped hs hpop rfl) (u.edit_lookupTurn q) (sameBut_lookupTurn u q)
    | sweep b =>
      exact State.sweepTurn_keeps keysKept_restsOn (fun _ _ hedit hsame hv => State.keysKept_edit hv hedit hsame)
        (State.keysKept_popped hs hpop rfl) b

theorem State.storeCommand_keysKept {fell : Fall} {args : List Byte} {c : Option StoreCommand} {s t : State}
    (hs : s.KeysKept) (h : s.storeCommand fell args c = .next t) : t.KeysKept :=
  keysKept_restsOn.keeps_command hs h fun u hw hu => by
    cases c with
    | none => exact keysKept_restsOn.keeps (bs' := []) (.finish (.refl u) hw) hu
    | some x => exact State.keysKept_startWork hu hw _ x

theorem Store.housed_of_empty {st : Store} (h : st.slots = []) : st.Housed :=
  ⟨by simp [Store.slot, h, Table.get], by simp [Store.slot, h, Table.get], by simp [h, Table.wf]⟩

/-- Settles O54: a PUT places a record only after both buckets of its key were searched, and no command writes a key elsewhere. -/
theorem stepsKeepKeysUnique : Obligations.StepsKeepKeysUnique := by
  intro s t hs h
  refine keysKept_restsOn.keeps_step (fun u => ?_) (fun u hu => ?_) (fun u hu => hu) (fun i u v hr hw hu hv => ?_) hs h
  · exact State.keysKept_of_none (Store.housed_of_empty rfl)
      (State.upkeepWaiting_of_forall fun n => by rw [State.coldReset_banks]; rfl) (by simp [State.coldReset, State.cold])
  · exact State.keysKept_of_none (u.keysKept_iff.1 hu).1
      (State.upkeepWaiting_of_forall fun n => by rw [State.warmReset_banks]; rfl)
      (by simp [State.warmReset, State.resetService])
  · cases i with
    | bankTurn n => exact execBankTurn_keysKept hu hv
    | putCredential | replenish | getCredential | dropCredential | setState | readSlot =>
      exact State.storeCommand_keysKept hu hv
    | _ => simp [blocksWritten, pollBlocks, isReset] at hw hr

end Sys2Proof.Machine

/-! ## Tags (R138) -/

namespace Sys2Proof.Machine

/-- The tag tried at the `i`-th place. -/
def State.tagAt (s : State) (i : Nat) : Byte := s.dispatch.tagCounter + BitVec.ofNat 8 i

theorem State.tagAt_inj {s : State} {i j : Nat} (hi : i < 65) (hj : j < 65) (h : s.tagAt i = s.tagAt j) : i = j := by
  have h8 : BitVec.ofNat 8 i = BitVec.ofNat 8 j := by simpa [State.tagAt] using h
  have hn := congrArg BitVec.toNat h8
  simp only [BitVec.toNat_ofNat] at hn
  omega

/-- The 64 entries cannot hold 65 tags. -/
theorem State.exists_tag_free (s : State) : ∃ i, i < 65 ∧ ¬ s.Held (s.tagAt i) := by
  by_contra hall
  have hheld : ∀ i : Fin 65, s.Held (s.tagAt i) := fun i => by
    by_contra hi
    exact hall ⟨i, i.isLt, hi⟩
  choose e en d o hentry hstate using hheld
  obtain ⟨i, j, hij, hsame⟩ := Fintype.exists_ne_map_eq_of_card_lt e (by simp)
  have hen : en i = en j := by
    have hi := hentry i
    rw [hsame, hentry j] at hi
    exact (Option.some.inj hi).symm
  have htags := hstate i
  rw [hen, hstate j] at htags
  exact hij (Fin.ext (State.tagAt_inj i.isLt j.isLt (EntryState.offered.inj htags).1.symm))

/-- Settles O22: the search takes the first value that is free, and 65 tries are enough. -/
theorem tagIsTheFirstFreeValue : Obligations.TagIsTheFirstFreeValue := by
  intro s
  classical
  obtain ⟨hlt, hfree⟩ := Nat.find_spec s.exists_tag_free
  have hbefore : ∀ j < Nat.find s.exists_tag_free, s.Held (s.tagAt j) := fun j hj => by
    have := Nat.find_min s.exists_tag_free hj
    by_contra hh
    exact this ⟨by omega, hh⟩
  generalize Nat.find s.exists_tag_free = i at hlt hfree hbefore
  have hnext : s.nextTag = s.tagAt i := by
    have hfind : ((List.range 65).map s.tagAt).find? (fun t => !s.tagHeld t) = some (s.tagAt i) := by
      rw [List.find?_eq_some_iff_getElem]
      refine ⟨by simpa [Bool.not_eq_true', ← State.tagHeld_iff] using hfree, i, by simpa using hlt, by simp, fun j hj => ?_⟩
      simpa [State.tagHeld_iff] using hbefore j hj
    exact congrArg (fun x => x.getD s.dispatch.tagCounter) hfind
  exact ⟨i, hlt, hnext, hnext ▸ hfree, hbefore⟩

end Sys2Proof.Machine

/-! ## Routes (R68 to R70) -/

namespace Sys2Proof.Machine

section Routes
variable {m : FloorMap} {groups : Vector GroupState 12} {o f : Nat} {z a b : Fin 8}

theorem FloorMap.route_same (ho : m.zoneOf o = some z) (hf : m.zoneOf f = some z) :
    m.route groups o f = m.sameZoneRoute groups z o f := by
  simp [FloorMap.route, ho, hf]

theorem FloorMap.route_cross (ho : m.zoneOf o = some a) (hf : m.zoneOf f = some b) (hab : a ≠ b) :
    m.route groups o f = m.crossZoneRoute groups a b o f := by
  simp [FloorMap.route, ho, hf, hab]

theorem FloorMap.route_none (h : m.zoneOf o = none ∨ m.zoneOf f = none) : m.route groups o f = .error .denyNoRoute := by
  unfold FloorMap.route
  rcases h with h | h
  · rw [h]
  · rw [h]; cases m.zoneOf o <;> rfl

/-- Whether the standby group of a leg may take its place. -/
theorem FloorMap.standbyUsable_iff {g : Fin 12} :
    m.standbyUsable groups g o f = true ↔ groups[g] = .inService ∧ m.serves g o = true ∧ m.serves g f = true := by
  simp [FloorMap.standbyUsable, and_assoc]

/-- A route within a zone, its local group serving both floors, follows the group's state. -/
theorem FloorMap.sameZoneRoute_served {g : Fin 12} (hg : m.zoneTable[z].localGroup = some g) (ho : m.serves g o = true)
    (hf : m.serves g f = true) :
    m.sameZoneRoute groups z o f =
      match groups[g] with
      | .inService => .ok { group := g, target := f, finalFloor := f, tripNeeded := false }
      | .recall => .error .holdRecall
      | .outOfService =>
        match m.zoneTable[z].standby with
        | none => .error .holdUnavailable
        | some x =>
          if m.standbyUsable groups x o f then .ok { group := x, target := f, finalFloor := f, tripNeeded := false }
          else .error .holdUnavailable := by
  unfold FloorMap.sameZoneRoute
  simp only [hg, ho, hf, Bool.and_self, if_true]
  cases groups[g] with
  | outOfService => cases m.zoneTable[z].standby <;> rfl
  | _ => rfl

theorem FloorMap.sameZoneRoute_unserved
    (h : ∀ g, m.zoneTable[z].localGroup = some g → ¬ (m.serves g o = true ∧ m.serves g f = true)) :
    m.sameZoneRoute groups z o f = .error .denyNoRoute := by
  unfold FloorMap.sameZoneRoute
  cases hg : m.zoneTable[z].localGroup with
  | none => rfl
  | some g => exact if_neg (by simpa using h g hg)

theorem FloorMap.crossZoneRoute_served {x : Transfer} (hx : m.transfer a b = some x) (ho : m.serves x.group o = true)
    (hf : m.serves x.group x.floor = true) :
    m.crossZoneRoute groups a b o f
      = legByState groups[x.group]
          { group := x.group, target := x.floor, finalFloor := f, tripNeeded := x.floor != f } := by
  simp [FloorMap.crossZoneRoute, hx, ho, hf]

theorem FloorMap.crossZoneRoute_unserved
    (h : ∀ x, m.transfer a b = some x → ¬ (m.serves x.group o = true ∧ m.serves x.group x.floor = true)) :
    m.crossZoneRoute groups a b o f = .error .denyNoRoute := by
  unfold FloorMap.crossZoneRoute
  cases hx : m.transfer a b with
  | none => rfl
  | some x => exact if_neg (by simpa using h x hx)

/-- What holds of a route given. -/
structure Route.Given (r : Route) (m : FloorMap) (groups : Vector GroupState 12) (o f : Nat) : Prop where
  inService : groups[r.group] = .inService
  origin : m.serves r.group o = true
  target : m.serves r.group r.target = true
  final : r.finalFloor = f
  trip : r.tripNeeded = true ↔ r.target ≠ f

theorem Route.given_sameZone {r : Route} (h : m.sameZoneRoute groups z o f = .ok r) : r.Given m groups o f := by
  cases hg : m.zoneTable[z].localGroup with
  | none => rw [FloorMap.sameZoneRoute_unserved (fun g' hg' => by rw [hg] at hg'; cases hg')] at h; cases h
  | some g =>
    by_cases hserves : m.serves g o = true ∧ m.serves g f = true
    · obtain ⟨ho, hf⟩ := hserves
      rw [FloorMap.sameZoneRoute_served hg ho hf] at h
      split at h
      · cases h; exact ⟨‹_›, ho, hf, rfl, by simp⟩
      · cases h
      · split at h
        · cases h
        · split at h
          · rename_i husable
            obtain ⟨hin, hso, hsf⟩ := FloorMap.standbyUsable_iff.1 husable
            cases h
            exact ⟨hin, hso, hsf, rfl, by simp⟩
          · cases h
    · rw [FloorMap.sameZoneRoute_unserved fun g' hg' => by
        rw [hg] at hg'
        cases hg'
        exact hserves] at h
      cases h

theorem Route.given_crossZone {r : Route} (h : m.crossZoneRoute groups a b o f = .ok r) : r.Given m groups o f := by
  cases hx : m.transfer a b with
  | none => rw [FloorMap.crossZoneRoute_unserved (by simp [hx])] at h; cases h
  | some x =>
    by_cases hserves : m.serves x.group o = true ∧ m.serves x.group x.floor = true
    · obtain ⟨ho, hf⟩ := hserves
      rw [FloorMap.crossZoneRoute_served hx ho hf] at h
      cases hst : groups[x.group] with
      | inService =>
        rw [hst] at h
        cases h
        exact ⟨hst, ho, hf, rfl, by simp⟩
      | _ => rw [hst] at h; cases h
    · rw [FloorMap.crossZoneRoute_unserved fun x' hx' => by
        rw [hx] at hx'
        cases hx'
        exact hserves] at h
      cases h

theorem Route.given_of_route {r : Route} (h : m.route groups o f = .ok r) : r.Given m groups o f := by
  cases ho : m.zoneOf o with
  | none => rw [FloorMap.route_none (.inl ho)] at h; cases h
  | some a => cases hf : m.zoneOf f with
    | none => rw [FloorMap.route_none (.inr hf)] at h; cases h
    | some b =>
      by_cases hab : a = b
      · subst hab
        rw [FloorMap.route_same ho hf] at h
        exact Route.given_sameZone h
      · rw [FloorMap.route_cross ho hf hab] at h
        exact Route.given_crossZone h

end Routes

/-- Settles O23: within a zone the local group decides, across zones the transfer entry. -/
theorem routesFollowTheMapAndGroups : Obligations.RoutesFollowTheMapAndGroups := by
  intro m groups o f
  refine ⟨fun r hr => ?_, FloorMap.route_none, fun z g ho hf hg hgo hgf => ?_, fun z ho hf hunserved => ?_,
    fun a b ho hf hab => ⟨fun hx => ?_, fun x hx => ⟨fun hunserved => ?_, fun hxo hxf => ?_⟩⟩⟩
  · obtain ⟨hin, horigin, htarget, hfinal, htrip⟩ := Route.given_of_route hr
    exact ⟨hin, horigin, htarget, hfinal, htrip⟩
  · rw [FloorMap.route_same ho hf, FloorMap.sameZoneRoute_served hg hgo hgf]
    refine ⟨fun hst => by rw [hst], fun hst => by rw [hst], fun hst => ?_⟩
    rw [hst]
    refine ⟨fun x hx hin hxo hxf => ?_, fun hnone => ?_⟩
    · rw [hx]; exact if_pos (FloorMap.standbyUsable_iff.2 ⟨hin, hxo, hxf⟩)
    · cases hx : m.zoneTable[z].standby with
      | none => rfl
      | some x => exact if_neg (by rw [FloorMap.standbyUsable_iff]; exact hnone x hx)
  · rw [FloorMap.route_same ho hf, FloorMap.sameZoneRoute_unserved hunserved]
  · rw [FloorMap.route_cross ho hf hab, FloorMap.crossZoneRoute_unserved (by simp [hx])]
  · rw [FloorMap.route_cross ho hf hab, FloorMap.crossZoneRoute_unserved fun x' hx' => by
      rw [hx] at hx'
      cases hx'
      exact hunserved]
  · rw [FloorMap.route_cross ho hf hab, FloorMap.crossZoneRoute_served hx hxo hxf]
    cases groups[x.group] <;> rfl

end Sys2Proof.Machine

/-! ## What is written into the pending entries (R73 to R75) -/

namespace Sys2Proof.Machine

/-- Whether an entry's record has been found and its journey decided (R73). -/
def Entry.Decided (en : Entry) : Prop := en.state ≠ .probeHome ∧ en.state ≠ .probeAlt

/-- What an entry may become: its tag is free or its own, its route needs a trip only short of the final floor or was its own, and
with its probes behind it it holds the found and decision fields or had them. -/
structure State.Admits (s : State) (e : Fin 64) (x : Entry) : Prop where
  tag : ∀ b d o, x.state = .offered b d o → ¬ s.Held b ∨ ∃ en d' o', s.entries[e] = some en ∧ en.state = .offered b d' o'
  route : ∀ g, x.grant = some g →
    (g.route.tripNeeded = true → g.route.target ≠ g.route.finalFloor) ∨ ∃ en, s.entries[e] = some en ∧ en.grant = some g
  complete : x.Decided → (x.found.isSome = true ∧ x.grant.isSome = true)
    ∨ ∃ en, s.entries[e] = some en ∧ en.Decided ∧ en.found = x.found ∧ en.grant = x.grant

/-- One entry written, and the request it then waits for queued. -/
structure State.Wrote (s t : State) (e : Fin 64) (x : Option Entry) : Prop where
  entries : t.entries = s.entries.set e x
  lookup : t.lookupWaiting.Perm ((x.bind (Entry.waits e)).toList ++ s.lookupWaiting)
  admits : ∀ en, x = some en → s.Admits e en

section Wrote
variable {s t u : State} {e : Fin 64} {en : Entry} {x : Option Entry} {bs : List Block}

theorem State.Admits.of_entries (h : u.entries = s.entries) (ha : u.Admits e en) : s.Admits e en := by
  have hheld : ∀ b, s.Held b → u.Held b := fun b hb => by rwa [State.Held, h]
  refine ⟨fun b d o hs => ?_, by rw [← h]; exact ha.route, by rw [← h]; exact ha.complete⟩
  have := ha.tag b d o hs
  rw [h] at this
  exact this.imp_left fun hb hs => hb (hheld b hs)

theorem State.Wrote.before (h : u.Wrote t e x) (hsame : SameBut bs s u) (he : Block.entries ∉ bs := by decide)
    (hl : Block.lookup ∉ bs := by decide) : s.Wrote t e x := by
  have hentries : u.entries = s.entries := hsame .entries he
  refine ⟨hentries ▸ h.entries, ?_, fun en hen => (h.admits en hen).of_entries hentries⟩
  rw [← State.lookupWaiting_of_same hsame hl]
  exact h.lookup

theorem State.Wrote.after (h : s.Wrote u e x) (hsame : SameBut bs u t) (he : Block.entries ∉ bs := by decide)
    (hl : Block.lookup ∉ bs := by decide) : s.Wrote t e x := by
  refine ⟨(hsame .entries he : t.entries = u.entries).trans h.entries, ?_, h.admits⟩
  rw [State.lookupWaiting_of_same hsame hl]
  exact h.lookup

theorem State.wrote_free (s : State) (e : Fin 64) : s.Wrote (s.setEntry e none) e none :=
  ⟨rfl, by exact .refl _, fun _ h => by cases h⟩

/-- An entry that waits for nothing. -/
theorem State.wrote_setEntry (ha : s.Admits e en) (hw : en.waits e = none) :
    s.Wrote (s.setEntry e (some en)) e (some en) :=
  ⟨rfl, by rw [Option.bind_some, hw]; exact .refl _, fun _ h => by cases h; exact ha⟩

/-- An entry written and its request queued. -/
theorem State.wrote_queueLookup {q : LookupRequest} (ha : s.Admits e en) (hw : en.waits e = some (bankOf q.bucket, q)) :
    s.Wrote ((s.setEntry e (some en)).queueLookup q) e (some en) :=
  ⟨rfl, by rw [Option.bind_some, hw]; exact (s.setEntry e (some en)).lookupWaiting_queueLookup q, fun _ h => by cases h; exact ha⟩

theorem State.wrote_answerAndFree (s : State) (e : Fin 64) (en : Entry) (r : Reply) :
    s.Wrote (s.answerAndFree e en r) e none :=
  (State.wrote_free (s.post e en r) e).before (sameBut_post s e en r)

theorem State.wrote_makeOffer {r : Record} {route : Route} {cont : Bool} (hfound : en.found.isSome = true)
    (hroute : route.tripNeeded = true → route.target ≠ route.finalFloor) :
    ∃ x, s.Wrote (s.makeOffer e en r route cont) e x := by
  unfold State.makeOffer
  dsimp only
  refine ⟨_, State.Wrote.before (State.wrote_setEntry ⟨fun b d o h => .inl ?_, fun g hg => .inl ?_, fun _ => .inl ⟨hfound, rfl⟩⟩ ?_)
    (sameBut_dispatch s _)⟩
  · obtain ⟨i, -, -, hfree, -⟩ := tagIsTheFirstFreeValue s
    cases h
    exact hfree
  · cases hg
    exact hroute
  · rfl

/-- A route that a decision grants (R68). -/
theorem State.route_of_decision {r : Record} {route : Route} {cont : Bool} (h : s.decision en r = .grant route cont) :
    route.tripNeeded = true → route.target ≠ route.finalFloor := by
  have hstep : ∀ f c, s.routeStep en f c = .grant route cont → route.tripNeeded = true → route.target ≠ route.finalFloor := by
    intro f c hf htrip
    unfold State.routeStep at hf
    split at hf
    · cases hf
    · rename_i hroute
      have hgiven := Route.given_of_route hroute
      split at hf
      · cases hf
      · cases hf
        rw [hgiven.final]
        exact hgiven.trip.1 htrip
  unfold State.decision at h
  split at h
  · rename_i v hv
    subst h
    unfold Record.standing at hv
    repeat' split at hv
    all_goals simp at hv
  · split at h
    · cases h
    · split at h
      · cases h
      · exact hstep _ _ h
      · split at h
        · cases h
        · exact hstep _ _ h

theorem State.wrote_takeDecision {b : Bucket} {w : Way} {r : Record} :
    ∃ x, s.Wrote (s.takeDecision e en b w r) e x := by
  unfold State.takeDecision
  dsimp only
  split
  · exact ⟨none, (State.wrote_answerAndFree _ _ _ _).before (sameBut_store s _)⟩
  · exact ⟨none, State.wrote_answerAndFree _ _ _ _⟩
  · rename_i hd
    obtain ⟨x, hx⟩ := State.wrote_makeOffer (s := { s with store := s.store.write b w _ }) (e := e)
      (en := { en with found := some { bucket := b, way := w, edition := r.edition } }) rfl (State.route_of_decision hd)
    exact ⟨x, hx.before (sameBut_store s _)⟩

theorem State.wrote_probeTurn {b : Bucket} (he : s.entries[e] = some en) : ∃ x, s.Wrote (s.probeTurn e en b) e x := by
  unfold State.probeTurn
  split
  · exact State.wrote_takeDecision
  · split
    · split
      · exact ⟨none, State.wrote_answerAndFree _ _ _ _⟩
      · refine ⟨_, State.wrote_queueLookup ⟨fun b d o h => (by cases h), fun g hg => .inr ⟨en, he, hg⟩, fun h => ?_⟩ rfl⟩
        exact absurd rfl h.2
    · exact ⟨none, State.wrote_answerAndFree _ _ _ _⟩

/-- The turn of a LOOKUP request writes its entry, where that is in use. -/
theorem State.wrote_lookupTurn (s : State) (q : LookupRequest) :
    (s.entries[q.entry] = none ∧ s.lookupTurn q = s) ∨ ∃ x, s.Wrote (s.lookupTurn q) q.entry x := by
  unfold State.lookupTurn
  split
  · exact .inl ⟨‹_›, rfl⟩
  · split
    · exact .inr (State.wrote_probeTurn ‹_›)
    · exact .inr ⟨none, (State.wrote_free _ _).before (sameBut_store s _)⟩

/-- A failed offer leaves its entry REVERSING with its reversal queued. -/
theorem State.wrote_failOffer {c : ReplyCode} {b : Byte} {d : Nat} {o : Bool} (he : s.entries[e] = some en)
    (hs : en.state = .offered b d o) : ∃ x, s.Wrote (s.failOffer e en c) e x := by
  have hpost := sameBut_post s e en (.plain c)
  unfold State.failOffer State.startReversal
  split
  · rename_i f hf
    refine ⟨_, (State.wrote_queueLookup (en := { en with state := .reversing })
      ⟨fun b d o h => (by cases h), fun g hg => .inr ⟨en, ?_, hg⟩,
      fun _ => .inr ⟨en, ?_, ⟨by simp [hs], by simp [hs]⟩, rfl, rfl⟩⟩ ?_).before hpost⟩
    · rwa [State.post_entries]
    · rwa [State.post_entries]
    · simp [Entry.waits, hf]
  · exact ⟨none, (State.wrote_free _ _).before hpost⟩

theorem State.wrote_takeEntry (s : State) (e : Fin 64) (l : Fin 4) (d : Fin 28) (origin : Nat) (r : Request) :
    ∃ x, s.Wrote (s.takeEntry e l d origin r) e x := by
  have hset : SameBut [] (s.setEntry e (some (newEntry l d (s.drop l d).lobby origin r)))
      ((s.setEntry e (some (newEntry l d (s.drop l d).lobby origin r))).setDrop l d
        { s.drop l d with transaction := (s.drop l d).transaction.map fun t => { t with entry := some e } }) :=
    sameBut_setDrop rfl rfl
  refine ⟨some (newEntry l d (s.drop l d).lobby origin r), rfl, ?_, fun x hx => ?_⟩
  · have hq := State.lookupWaiting_queueLookup ((s.setEntry e (some (newEntry l d (s.drop l d).lobby origin r))).setDrop l d
        { s.drop l d with transaction := (s.drop l d).transaction.map fun t => { t with entry := some e } })
      { bucket := r.key.home, entry := e, kind := .probe }
    rw [State.lookupWaiting_of_same hset] at hq
    exact hq
  · cases hx
    exact ⟨fun b d o h => by simp [newEntry] at h, fun g hg => by simp [newEntry] at hg, fun h => absurd rfl h.1⟩

end Wrote

/-- One event outside the banks and EMG: the entries and their requests stand, or one entry that waits for nothing is written. -/
inductive State.EntryEvent (s t : State) : Prop
  | same (hentries : t.entries = s.entries) (hlookup : t.lookupWaiting = s.lookupWaiting)
  | wrote (e : Fin 64) (x : Option Entry) (hidle : s.entries[e].bind (Entry.waits e) = none) (hwrote : s.Wrote t e x)

section EntryEvent
variable {s t u : State} {bs : List Block}

theorem State.EntryEvent.of_same (h : SameBut bs s t) (he : Block.entries ∉ bs := by decide)
    (hl : Block.lookup ∉ bs := by decide) : s.EntryEvent t :=
  .same (h .entries he) (State.lookupWaiting_of_same h hl)

theorem State.EntryEvent.before (h : u.EntryEvent t) (hsame : SameBut bs s u) (he : Block.entries ∉ bs := by decide)
    (hl : Block.lookup ∉ bs := by decide) : s.EntryEvent t := by
  have hentries : u.entries = s.entries := hsame .entries he
  cases h with
  | same he' hl' => exact .same (he'.trans hentries) (hl'.trans (State.lookupWaiting_of_same hsame hl))
  | wrote e x hidle hwrote => exact .wrote e x (hentries ▸ hidle) (hwrote.before hsame he hl)

theorem Entry.waits_of_offered {e : Fin 64} {en : Entry} {b : Byte} {d : Nat} {o : Bool} (h : en.state = .offered b d o) :
    en.waits e = none := by
  simp [Entry.waits, h]

theorem State.entryEvent_arrive (s : State) (l : Fin 4) (d : Fin 28) (r : Request) : s.EntryEvent (s.arrive l d r) := by
  unfold State.arrive
  dsimp only
  split
  · exact .of_same (bs := []) (sameBut_setDrop rfl rfl)
  · rename_i e _ hfree
    obtain ⟨x, hx⟩ := s.wrote_takeEntry e l d s.lobbies[(s.drop l d).lobby].origin r
    exact .wrote e x (by rw [(State.freeEntry_some.1 hfree).1]; rfl) hx
  · exact .same rfl rfl

theorem State.entryEvent_request (s : State) (l : Fin 4) (d : Fin 28) (r : Request) : s.EntryEvent (s.request l d r) := by
  unfold State.request
  dsimp only
  split
  · exact .of_same (bs := []) (sameBut_setDrop (by simp) (by simp))
  · split
    · exact .of_same (bs := []) (sameBut_setDrop (by simp) (by simp))
    · split
      · exact .of_same (bs := []) (sameBut_setDrop (by simp) (by simp))
      · exact (State.entryEvent_arrive _ l d r).before (bs := []) (sameBut_setDrop rfl rfl)

theorem State.entryEvent_goodAnswer (s : State) (l : Fin 4) (p : Poll) (a : Answer) :
    s.EntryEvent (s.goodAnswer l p a) := by
  have hsame : SameBut [.drops, .service, .queue] s
      (if a.tamper then ((s.deliver l p).supervise l p.drop true).tamper l p.drop
       else (s.deliver l p).supervise l p.drop true) := by
    have h1 : SameBut [.drops, .service, .queue] s ((s.deliver l p).supervise l p.drop true) :=
      ((sameBut_deliver s l p).mono (by simp)).trans (sameBut_supervise _ _ _ _)
    split
    · exact h1.then (sameBut_tamper _ _ _) (by simp)
    · exact h1
  unfold State.goodAnswer
  dsimp only
  split
  · exact (State.entryEvent_request _ _ _ _).before hsame
  · exact .of_same hsame

theorem execPollAnswer_entryEvent {l : Fin 4} {bytes : List Byte} (h : execPollAnswer l bytes s = .next t) :
    s.EntryEvent t := by
  cases h
  split
  · exact .same rfl rfl
  · split
    · exact .same rfl rfl
    · split
      · exact (State.entryEvent_goodAnswer _ _ _ _).before (sameBut_endPoll s l)
      · exact .of_same ((sameBut_endPoll s l).mono (List.nil_subset _) |>.trans (sameBut_supervise _ _ _ _))

theorem State.entryEvent_receive {content : State → State} (h : s.receive content = .next t)
    (hc : ∀ u : State, u.EntryEvent (content u)) : s.EntryEvent t := by
  cases h
  split
  · exact .same rfl rfl
  · rw [State.hear_eq_heard]
    exact (hc _).before (sameBut_hear s)

theorem State.entryEvent_stale (s : State) : s.EntryEvent s.stale := .of_same (sameBut_dispatch s _)

theorem execAssign_entryEvent {tag : Byte} {car : Fin 16} (h : execAssign tag car s = .next t) : s.EntryEvent t := by
  refine State.entryEvent_receive h fun u => ?_
  split
  · rename_i e en ho
    obtain ⟨he, d, hs⟩ := State.outstanding_some ho
    have hidle : u.entries[e].bind (Entry.waits e) = none := by rw [he]; exact Entry.waits_of_offered hs
    unfold State.assigned
    split
    · exact .wrote e none hidle ((State.wrote_answerAndFree _ _ _ _).before (by rw [State.assignTrip_eq]; exact sameBut_trips u _))
    · exact .wrote e none hidle (State.wrote_free _ _)
  · exact State.entryEvent_stale u

theorem execDecline_entryEvent {tag : Byte} {reason : DeclineReason} (h : execDecline tag reason s = .next t) :
    s.EntryEvent t := by
  refine State.entryEvent_receive h fun u => ?_
  split
  · rename_i e en ho
    obtain ⟨he, d, hs⟩ := State.outstanding_some ho
    have hsame := sameBut_declineGroup u en reason
    have hentries : (u.declineGroup en reason).entries = u.entries := hsame .entries (by simp)
    obtain ⟨x, hx⟩ := State.wrote_failOffer (s := u.declineGroup en reason) (c := declineReply reason)
      (by rwa [hentries]) hs
    exact .wrote e x (by rw [he]; exact Entry.waits_of_offered hs) (hx.before hsame)
  · exact State.entryEvent_stale u

theorem execOfferExpiry_entryEvent {e : Fin 64} (h : execOfferExpiry e s = .next t) : s.EntryEvent t := by
  cases h
  split
  · exact .same rfl rfl
  · split
    · exact .same rfl rfl
    · rename_i en he
      split
      · rename_i b d o hs
        split
        · exact .same rfl rfl
        · have hsame : SameBut [.queue] s (if o then s.countTimeout else s.dropOffer e) := by
            split
            · exact sameBut_countTimeout s
            · exact sameBut_dispatch s _
          have hentries : (if o then s.countTimeout else s.dropOffer e).entries = s.entries := hsame .entries (by simp)
          obtain ⟨x, hx⟩ := State.wrote_failOffer (s := if o then s.countTimeout else s.dropOffer e) (c := .holdNoAnswer)
            (by rwa [hentries]) hs
          exact .wrote e x (by rw [he]; exact Entry.waits_of_offered hs) (hx.before hsame)
      · exact .same rfl rfl

theorem Entry.markSent_cases (en : Entry) :
    en.markSent = en ∨ ∃ b d o, en.state = .offered b d o ∧ en.markSent = { en with state := .offered b d true } := by
  unfold Entry.markSent
  split
  · exact .inr ⟨_, _, _, ‹_›, rfl⟩
  · exact .inl rfl

theorem State.entryEvent_sent (s : State) (f : TxFrame) : s.EntryEvent (s.sent f) := by
  unfold State.sent
  split
  · split
    · rename_i e _ _ en he
      rcases en.markSent_cases with hm | ⟨b, d, o, hs, hm⟩
      · rw [hm]
        refine .same (Vector.ext fun i hi => ?_) rfl
        by_cases hei : e.val = i
        · subst hei; simpa [State.setEntry] using he.symm
        · simp [State.setEntry, Vector.getElem_set_ne, hei]
      · rw [hm]
        refine .wrote e _ (by rw [he]; exact Entry.waits_of_offered hs)
          (State.wrote_setEntry ⟨fun b' d' o' h' => ?_, fun g hg => .inr ⟨en, he, hg⟩,
            fun _ => .inr ⟨en, he, ⟨by simp [hs], by simp [hs]⟩, rfl, rfl⟩⟩ rfl)
        cases h'
        exact .inr ⟨en, _, _, he, hs⟩
    · exact .same rfl rfl
  · exact .same rfl rfl

theorem execFrameSent_entryEvent (h : execFrameSent s = .next t) : s.EntryEvent t := by
  cases h
  split
  · exact .same rfl rfl
  · split
    · exact .same rfl rfl
    · exact (State.entryEvent_sent _ _).before (sameBut_dispatch s _)

/-- Whether a row is a bank's turn or the assertion of EMG. -/
def isTurnOrEmergency : Instr → Bool
  | .bankTurn _ => true
  | .emgAssert => true
  | _ => false

/-- Every command and event but the resets, a bank's turn and EMG_ASSERT writes at most one entry, which waits for nothing. -/
theorem exec_entryEvent {i : Instr} (hr : isReset i = false) (hi : isTurnOrEmergency i = false)
    (h : exec i s = .next t) : s.EntryEvent t := by
  by_cases hw : Block.entries ∈ blocksWritten i ∨ Block.lookup ∈ blocksWritten i
  · cases i with
    | pollAnswer => exact execPollAnswer_entryEvent h
    | assign => exact execAssign_entryEvent h
    | decline => exact execDecline_entryEvent h
    | offerExpiry => exact execOfferExpiry_entryEvent h
    | frameSent => exact execFrameSent_entryEvent h
    | _ => simp [blocksWritten, isReset, isTurnOrEmergency] at hw hr hi
  · exact .of_same (exec_sameBut h) (fun he => hw (.inl he)) (fun hl => hw (.inr hl))

end EntryEvent

/-! ### Properties of the entries alone -/

section KeepsEntries
variable {I : State → Prop}

/-- A command or event keeps a property of the entries that one entry freed or written as it may be keeps. -/
theorem RestsOn.keeps_entries_exec (hI : RestsOn [.entries] I)
    (hwrote : ∀ (s t : State) (e : Fin 64) (x : Option Entry), t.entries = s.entries.set e x →
      (∀ en, x = some en → s.Admits e en) → I s → I t)
    {i : Instr} {s t : State} (hr : isReset i = false) (hs : I s) (h : exec i s = .next t) : I t := by
  by_cases hi : isTurnOrEmergency i = true
  · cases i with
    | bankTurn n =>
      refine hI.keeps_bankTurn (by simp) (fun u q hu => ?_) (fun u q hu => hI.keeps (sameBut_upkeepTurn u q) hu)
        (fun u b hu => hI.keeps (sameBut_sweepTurn u b) hu) hs h
      rcases u.wrote_lookupTurn q with ⟨-, hsame⟩ | ⟨x, hx⟩
      · rwa [hsame]
      · exact hwrote _ _ _ x hx.entries hx.admits hu
    | emgAssert =>
      have hlevel : I { s with emg := true } := hI s _ (fun b hb => by cases List.mem_singleton.1 hb; rfl) hs
      cases h
      split
      · exact hs
      · split
        · exact hlevel
        · refine List.foldlRecOn _ _ hlevel fun w hw e _ => ?_
          unfold State.holdEntry
          split
          · exact hw
          · split
            · exact hwrote w _ e none (State.wrote_answerAndFree _ _ _ _).entries (fun _ h => by cases h) hw
            · exact hw
    | _ => simp [isTurnOrEmergency] at hi
  · cases exec_entryEvent hr (by simpa using hi) h with
    | same hentries _ =>
      refine hI s t (fun b hb => ?_) hs
      cases List.mem_singleton.1 hb
      exact hentries
    | wrote e x _ hx => exact hwrote s t e x hx.entries hx.admits hs

end KeepsEntries

end Sys2Proof.Machine

/-! ## Distinct tags (R75, R138) -/

namespace Sys2Proof.Machine

theorem tagsKept_restsOn : RestsOn [.entries] State.TagsKept := fun s t h hs => by
  have hentries : t.entries = s.entries := h .entries (by simp)
  rwa [State.TagsKept, hentries]

theorem Vector.getElem_set_fin {α : Type} {n : Nat} (v : Vector α n) (i j : Fin n) (x : α) :
    (v.set i x)[j] = if i = j then x else v[j] := by
  simp [Vector.getElem_set, Fin.ext_iff]

/-- An entry written with a tag that no other OFFERED entry carries keeps the tags distinct. -/
theorem State.tagsKept_write {s t : State} {e : Fin 64} {x : Option Entry} (hentries : t.entries = s.entries.set e x)
    (hadmits : ∀ en, x = some en → s.Admits e en) (hs : s.TagsKept) : t.TagsKept := by
  have hnew : ∀ (e' : Fin 64) en en' b d o d' o', x = some en → en.state = .offered b d o → s.entries[e'] = some en' →
      en'.state = .offered b d' o' → e = e' := by
    intro e' en en' b d o d' o' hx hst he' hst'
    rcases (hadmits en hx).tag b d o hst with hfree | ⟨en0, d0, o0, he0, hst0⟩
    · exact absurd ⟨e', en', d', o', he', hst'⟩ hfree
    · exact hs e e' en0 en' b d0 o0 d' o' he0 he' hst0 hst'
  intro e1 e2 en1 en2 b d1 o1 d2 o2 h1 h2 hst1 hst2
  rw [hentries, Vector.getElem_set_fin] at h1 h2
  split_ifs at h1 h2 with he1 he2
  · exact he1.symm.trans he2
  · exact he1.symm.trans (hnew e2 en1 en2 b d1 o1 d2 o2 h1 hst1 h2 hst2)
  · rename_i he2
    exact (he2.symm.trans (hnew e1 en2 en1 b d2 o2 d1 o1 h2 hst2 h1 hst1)).symm
  · exact hs e1 e2 en1 en2 b d1 o1 d2 o2 h1 h2 hst1 hst2

theorem State.tagsKept_of_free {s : State} (h : ∀ e : Fin 64, s.entries[e] = none) : s.TagsKept :=
  fun e _ _ _ _ _ _ _ _ he => by
    rw [h e] at he
    cases he

/-- Settles O58: only an offer gives an entry a tag, and it takes one that no OFFERED entry holds. -/
theorem stepsKeepTagsDistinct : Obligations.StepsKeepTagsDistinct := by
  intro s t hs h
  exact tagsKept_restsOn.keeps_step (fun u => State.tagsKept_of_free fun e => by simp [State.coldReset, State.cold])
    (fun u _ => State.tagsKept_of_free fun e => by simp [State.warmReset, State.resetService]) (fun u hu => hu)
    (fun _ _ _ hr _ hu hv => tagsKept_restsOn.keeps_entries_exec (fun _ _ _ _ => State.tagsKept_write) hr hu hv) hs h

end Sys2Proof.Machine

/-! ## The Trip Table (R148) -/

namespace Sys2Proof.Machine

/-- The bounds of a Trip Table (R148). -/
structure TripsBounded (l : List Trip) : Prop where
  length : l.length ≤ 256
  keys : (l.map Trip.key).Nodup
  each : ∀ t ∈ l, 1 ≤ t.remaining ∧ t.remaining ≤ 1800 ∧ t.transfer ≠ t.finalFloor

theorem TripsBounded.sublist {l l' : List Trip} (h : TripsBounded l) (hs : l'.Sublist l) : TripsBounded l' :=
  ⟨hs.length_le.trans h.length, h.keys.sublist (hs.map Trip.key), fun t ht => h.each t (hs.subset ht)⟩

theorem Trip.count_eq_some {t t' : Trip} (h : t.count = some t') :
    t.remaining ≠ 1 ∧ t' = { t with remaining := t.remaining - 1 } := by
  unfold Trip.count at h
  split at h
  · cases h
  · exact ⟨‹_›, (Option.some.inj h).symm⟩

theorem keys_filterMap_count (l : List Trip) : ((l.filterMap Trip.count).map Trip.key).Sublist (l.map Trip.key) := by
  induction l with
  | nil => exact .slnil
  | cons t l ih =>
    cases h : t.count with
    | none => rw [List.filterMap_cons_none h]; exact ih.cons _
    | some t' =>
      rw [List.filterMap_cons_some h, (Trip.count_eq_some h).2]
      exact ih.cons_cons _

/-- A counted tick keeps the bounds: a trip at 1 is removed. -/
theorem TripsBounded.count {l : List Trip} (h : TripsBounded l) : TripsBounded (l.filterMap Trip.count) := by
  refine ⟨(List.length_filterMap_le _ _).trans h.length, h.keys.sublist (keys_filterMap_count l), fun t ht => ?_⟩
  obtain ⟨t0, ht0, hcount⟩ := List.mem_filterMap.1 ht
  obtain ⟨hlo, hhi, hfloors⟩ := h.each t0 ht0
  obtain ⟨hne, rfl⟩ := Trip.count_eq_some hcount
  exact ⟨by dsimp only; omega, by dsimp only; omega, hfloors⟩

/-- The key's old trip removed and a new one appended where there is room. -/
theorem TripsBounded.replace {l : List Trip} (h : TripsBounded l) {x : Trip} {k : Key} (hkey : x.key = k)
    (hroom : (l.filter fun t => t.key != k).length < 256)
    (hx : 1 ≤ x.remaining ∧ x.remaining ≤ 1800 ∧ x.transfer ≠ x.finalFloor) :
    TripsBounded ((l.filter fun t => t.key != k) ++ [x]) := by
  subst hkey
  have hold : TripsBounded (l.filter fun t => t.key != x.key) := h.sublist List.filter_sublist
  refine ⟨by simpa using hroom, ?_, fun t ht => ?_⟩
  · rw [List.map_append, List.map_singleton, List.nodup_append]
    refine ⟨hold.keys, List.nodup_singleton _, fun k hk k' hk' => ?_⟩
    obtain ⟨t, ht, rfl⟩ := List.mem_map.1 hk
    cases List.mem_singleton.1 hk'
    simpa using (List.mem_filter.1 ht).2
  · rcases List.mem_append.1 ht with ht | ht
    · exact hold.each t ht
    · cases List.mem_singleton.1 ht
      exact hx

/-- The trip lifetime lies in its range (R79). -/
def State.LifetimeKept (s : State) : Prop := 30 ≤ s.settings.timers.tripLifetime ∧ s.settings.timers.tripLifetime ≤ 1800

/-- A granted route that needs a trip ends short of its final floor (R68). -/
def State.RoutesKept (s : State) : Prop :=
  ∀ (e : Fin 64) (en : Entry) (g : Grant), s.entries[e] = some en → en.grant = some g → g.route.tripNeeded = true →
    g.route.target ≠ g.route.finalFloor

theorem State.tripsKept_iff (s : State) : s.TripsKept ↔ TripsBounded s.trips ∧ s.LifetimeKept ∧ s.RoutesKept := by
  constructor
  · rintro ⟨hlength, hkeys, heach, hlo, hhi, hroutes⟩
    exact ⟨⟨hlength, hkeys, heach⟩, ⟨hlo, hhi⟩, hroutes⟩
  · rintro ⟨⟨hlength, hkeys, heach⟩, ⟨hlo, hhi⟩, hroutes⟩
    exact ⟨hlength, hkeys, heach, hlo, hhi, hroutes⟩

theorem routesKept_restsOn : RestsOn [.entries] State.RoutesKept := fun s t h hs => by
  have hentries : t.entries = s.entries := h .entries (by simp)
  rwa [State.RoutesKept, hentries]

theorem State.routesKept_write {s t : State} {e : Fin 64} {x : Option Entry} (hentries : t.entries = s.entries.set e x)
    (hadmits : ∀ en, x = some en → s.Admits e en) (hs : s.RoutesKept) : t.RoutesKept := by
  intro e' en g he' hg htrip
  rw [hentries, Vector.getElem_set_fin] at he'
  split_ifs at he' with hee
  · rcases (hadmits en he').route g hg with hroute | ⟨en0, he0, hg0⟩
    · exact hroute htrip
    · exact hs e en0 g he0 hg0 htrip
  · exact hs e' en g he' hg htrip

theorem tripsKept_restsOn : RestsOn [.trips, .lifetime, .entries] State.TripsKept := fun s t h hs => by
  have htrips : t.trips = s.trips := h .trips (by simp)
  have hlife : t.settings.timers.tripLifetime = s.settings.timers.tripLifetime := h .lifetime (by simp)
  have hentries : t.entries = s.entries := h .entries (by simp)
  rw [State.tripsKept_iff] at hs ⊢
  rwa [State.LifetimeKept, State.RoutesKept, htrips, hlife, hentries]

/-- The Trip Table written, the trip lifetime standing. -/
theorem State.tripsKept_write {s t : State} (hs : s.TripsKept) (htrips : TripsBounded s.trips → TripsBounded t.trips)
    (hlife : t.settings.timers.tripLifetime = s.settings.timers.tripLifetime) (hroutes : t.RoutesKept) : t.TripsKept := by
  rw [State.tripsKept_iff] at hs ⊢
  obtain ⟨hbounded, hlifetime, -⟩ := hs
  exact ⟨htrips hbounded, by rwa [State.LifetimeKept, hlife], hroutes⟩

theorem State.tickClock_trips (s : State) : s.tickClock.trips = s.trips :=
  sameBut_tickClock s .trips (by simp)

theorem State.tick_tripsBounded {s : State} (h : TripsBounded s.trips) : TripsBounded s.tick.trips := by
  unfold State.tick State.tickTrips
  split
  · rwa [State.tickClock_trips]
  · rw [State.tickClock_trips]
    exact h.count

theorem State.wholeTick_tripsBounded {s : State} (h : TripsBounded s.trips) :
    TripsBounded s.restartDivider.tick.trips :=
  State.tick_tripsBounded (by rwa [show s.restartDivider.trips = s.trips from sameBut_restartDivider s .trips (by simp)])

/-- An UPKEEP turn only takes trips away (R150). -/
theorem State.upkeepTurn_trips (s : State) (q : UpkeepRequest) : (s.upkeepTurn q).trips.Sublist s.trips := by
  have hof : ∀ {bs : List Block} {t : State}, SameBut bs s t → Block.trips ∉ bs → t.trips.Sublist s.trips :=
    fun h hb => by rw [show _ = _ from h .trips hb]
  have hsearch : ∀ {act : State → Way → Record → State} {absent : State → State} {k : Key},
      (∀ w r, (act s w r).trips.Sublist s.trips) → (absent s).trips.Sublist s.trips →
      (s.searchPhase q.command k q.bucket q.phase act absent).trips.Sublist s.trips := fun hact habsent => by
    unfold State.searchPhase
    split
    · exact hact _ _
    · split
      · exact .refl _
      · exact habsent
  unfold State.upkeepTurn
  split
  · exact hof (sameBut_putPhase s _ _ _) (by decide)
  · exact hsearch (fun _ _ => .refl _) (.refl _)
  · exact hsearch (fun _ _ => List.filter_sublist) List.filter_sublist
  · exact hsearch (fun _ _ => hof (sameBut_setStateFound s _ _ _ _) (by decide)) (.refl _)
  · exact hsearch (fun _ _ => hof (sameBut_replenishFound s _ _ _ _) (by decide)) (.refl _)
  · exact .refl _

theorem Timers.clamped_tripLifetime (t : Timers) : 30 ≤ t.clamped.tripLifetime ∧ t.clamped.tripLifetime ≤ 1800 := by
  simp only [Timers.clamped, clamp]
  omega

theorem State.assignTrip_tripsBounded {s : State} (h : TripsBounded s.trips) (hlife : s.LifetimeKept) {r : Route}
    (hr : r.tripNeeded = true → r.target ≠ r.finalFloor) (k : Key) : TripsBounded (s.assignTrip k r).trips := by
  rw [State.assignTrip_eq]
  dsimp only
  split
  · rename_i hcreates
    simp only [State.createsTrip, Bool.and_eq_true, decide_eq_true_eq] at hcreates
    refine h.replace rfl ?_ ⟨?_, ?_, ?_⟩
    · exact hcreates.2
    · exact Nat.le_trans (by decide) hlife.1
    · exact hlife.2
    · exact hr hcreates.1
  · exact h.sublist List.filter_sublist

theorem execAssign_tripsBounded {tag : Byte} {car : Fin 16} {s t : State} (hs : s.TripsKept)
    (h : execAssign tag car s = .next t) : TripsBounded t.trips := by
  have hheard : s.heard.TripsKept := tripsKept_restsOn.keeps (sameBut_hear s) hs
  obtain ⟨hbounded, hlife, hroutes⟩ := s.heard.tripsKept_iff.1 hheard
  cases h
  split
  · exact (s.tripsKept_iff.1 hs).1
  · rw [State.hear_eq_heard]
    dsimp only
    split
    · rename_i e en ho
      unfold State.assigned
      split
      · rename_i g hg
        rw [State.answerAndFree_eq]
        simp only [State.post_trips]
        exact State.assignTrip_tripsBounded hbounded hlife (hroutes e en g (State.outstanding_some ho).1 hg) _
      · exact hbounded
    · exact hbounded

theorem execBankTurn_trips {n : Fin 4} {s t : State} (h : execBankTurn n s = .next t) : t.trips.Sublist s.trips := by
  rcases execBankTurn_cases h with rfl | ⟨x, u, hpop, rfl⟩
  · exact .refl _
  · have hu : u.trips = s.trips := hpop.same .trips (by simp)
    rw [← hu]
    cases x with
    | nothing => exact .refl _
    | lookup q => rw [show (u.serve (.lookup q)).trips = u.trips from sameBut_lookupTurn u q .trips (by simp)]
    | upkeep q => exact u.upkeepTurn_trips q
    | sweep b => rw [show (u.serve (.sweep b)).trips = u.trips from sameBut_sweepTurn u b .trips (by simp)]

theorem execSetTimers_tripsKept {fell : Fall} {args : List Byte} {s t : State} (hs : s.TripsKept)
    (h : execSetTimers fell args s = .next t) : t.TripsKept :=
  tripsKept_restsOn.keeps_command hs h fun u _ hu => by
    obtain ⟨hbounded, -, hroutes⟩ := u.tripsKept_iff.1 hu
    split
    · exact (State.tripsKept_iff _).2 ⟨hbounded, (readTimers args).clamped_tripLifetime, hroutes⟩
    · exact hu

theorem State.tripsKept_of_none {s : State} (htrips : s.trips = []) (hlife : s.LifetimeKept)
    (hentries : ∀ e : Fin 64, s.entries[e] = none) : s.TripsKept := by
  rw [State.tripsKept_iff, htrips]
  exact ⟨⟨by simp, by simp, by simp⟩, hlife, fun e en g he => by rw [hentries e] at he; cases he⟩

/-- The trip lifetime of a cold reset lies in its range (R79). -/
theorem State.lifetimeKept_of_cold {s : State} (h : s.settings = coldSettings) : s.LifetimeKept := by
  simp [State.LifetimeKept, h, coldSettings]

/-- Settles O55: a tick counts down and removes, an ASSIGN makes a trip only where there is room, with the trip lifetime and by a
granted route. -/
theorem stepsKeepTripsBounded : Obligations.StepsKeepTripsBounded := by
  intro s t hs h
  refine tripsKept_restsOn.keeps_step
    (fun u => State.tripsKept_of_none rfl (State.lifetimeKept_of_cold rfl) fun e => by simp [State.coldReset, State.cold])
    (fun u hu => State.tripsKept_of_none rfl (u.tripsKept_iff.1 hu).2.1 fun e => by simp [State.warmReset, State.resetService])
    (fun u hu => hu) (fun i u v hr hw hu hv => ?_) hs h
  have hroutes : v.RoutesKept :=
    routesKept_restsOn.keeps_entries_exec (fun _ _ _ _ => State.routesKept_write) hr (u.tripsKept_iff.1 hu).2.2 hv
  have hlife : Block.lifetime ∉ blocksWritten i → v.settings.timers.tripLifetime = u.settings.timers.tripLifetime :=
    exec_sameBut hv .lifetime
  have htrips : Block.trips ∉ blocksWritten i → v.trips = u.trips := exec_sameBut hv .trips
  cases i with
  | setTimers fell args => exact execSetTimers_tripsKept hu hv
  | bankTurn n =>
    exact State.tripsKept_write hu (fun hb => hb.sublist (execBankTurn_trips hv)) (hlife (by simp [blocksWritten, turnBlocks])) hroutes
  | assign tag car =>
    exact State.tripsKept_write hu (fun _ => execAssign_tripsBounded hu hv) (hlife (by simp [blocksWritten])) hroutes
  | tickEdge =>
    refine State.tripsKept_write hu (fun hb => ?_) (hlife (by simp [blocksWritten])) hroutes
    cases hv
    split
    · exact hb
    · exact State.tick_tripsBounded hb
  | internalTick =>
    refine State.tripsKept_write hu (fun hb => ?_) (hlife (by simp [blocksWritten])) hroutes
    cases hv
    split
    · exact hb
    · exact State.wholeTick_tripsBounded hb
  | clockEnd =>
    refine State.tripsKept_write hu (fun hb => ?_) (hlife (by simp [blocksWritten])) hroutes
    cases hv
    split
    · exact State.wholeTick_tripsBounded hb
    · exact hb
  | tripExpiry =>
    refine State.tripsKept_write hu (fun hb => ?_) (hlife (by simp [blocksWritten])) hroutes
    cases hv
    split
    · exact State.wholeTick_tripsBounded hb
    · exact hb
  | emgAssert | pollAnswer | decline | offerExpiry | frameSent =>
    refine State.tripsKept_write hu (fun hb => ?_) (hlife (by simp [blocksWritten, pollBlocks])) hroutes
    rwa [htrips (by simp [blocksWritten, pollBlocks])]
  | _ => simp [blocksWritten, isReset] at hw hr

end Sys2Proof.Machine

/-! ## The waiting LOOKUP requests (R27, R73, R74) -/

namespace Sys2Proof.Machine

/-- The LOOKUP requests of an entry that wait. -/
def State.requestsOf (s : State) (e : Fin 64) : List (Fin 4 × LookupRequest) :=
  s.lookupWaiting.filter fun x => x.2.entry == e

/-- Entry `e` has nothing waiting; every other entry has exactly the request its state calls for. -/
structure State.WaitingBut (s : State) (e : Fin 64) : Prop where
  idle : s.requestsOf e = []
  others : ∀ e' ≠ e, s.requestsOf e' = ((s.entries[e']).bind (Entry.waits e')).toList
  complete : ∀ (e' : Fin 64) en, s.entries[e'] = some en → en.Decided → en.found.isSome = true ∧ en.grant.isSome = true

theorem State.waitingKept_iff (s : State) :
    s.WaitingKept ↔ (∀ e, s.requestsOf e = ((s.entries[e]).bind (Entry.waits e)).toList)
      ∧ ∀ (e : Fin 64) en, s.entries[e] = some en → en.Decided → en.found.isSome = true ∧ en.grant.isSome = true :=
  and_congr_right fun _ =>
    ⟨fun h e en he hd => h e en he hd.1 hd.2, fun h e en he h1 h2 => h e en he ⟨h1, h2⟩⟩

theorem waitingKept_restsOn : RestsOn [.lookup, .entries] State.WaitingKept := fun s t h hs => by
  have hentries : t.entries = s.entries := h .entries (by simp)
  have hwaiting : t.lookupWaiting = s.lookupWaiting := by
    simp only [State.lookupWaiting]
    exact List.flatMap_congr fun n _ => by rw [Vector.get_of_map_eq (h .lookup (by simp)) n]
  rwa [State.WaitingKept, hentries, hwaiting]

theorem Entry.waits_entry {e : Fin 64} {en : Entry} {x : Fin 4 × LookupRequest} (h : en.waits e = some x) :
    x.2.entry = e := by
  unfold Entry.waits at h
  split at h
  · rw [← Option.some.inj h]
  · rw [← Option.some.inj h]
  · cases h
  · obtain ⟨f, -, rfl⟩ := Option.map_eq_some_iff.1 h
    rfl

theorem List.eq_toList_of_perm {α : Type} {l : List α} {o : Option α} (h : l.Perm o.toList) : l = o.toList := by
  cases o with
  | none => exact List.perm_nil.1 h
  | some a => exact List.perm_singleton.1 h

section WaitingBut
variable {s t : State} {e : Fin 64} {x : Option Entry}

theorem State.WaitingKept.but (h : s.WaitingKept) (hidle : s.entries[e].bind (Entry.waits e) = none) : s.WaitingBut e := by
  obtain ⟨hmatched, hcomplete⟩ := s.waitingKept_iff.1 h
  exact ⟨by rw [hmatched e, hidle]; rfl, fun e' _ => hmatched e', hcomplete⟩

/-- The requests of one entry, of those it waits for. -/
theorem waits_filter (x : Option Entry) (e e' : Fin 64) :
    (x.bind (Entry.waits e)).toList.filter (fun y => y.2.entry == e') =
      if e = e' then (x.bind (Entry.waits e)).toList else [] := by
  cases hw : x.bind (Entry.waits e) with
  | none => simp
  | some q =>
    obtain ⟨en, -, hen⟩ := Option.bind_eq_some_iff.1 hw
    simp [List.filter_cons, Entry.waits_entry hen]

/-- The entry written with its request queued: the match is whole again. -/
theorem State.WaitingBut.wrote (h : s.WaitingBut e) (hw : s.Wrote t e x) : t.WaitingKept := by
  have hperm : ∀ e', (t.requestsOf e').Perm
      ((if e = e' then (x.bind (Entry.waits e)).toList else []) ++ s.requestsOf e') := fun e' => by
    rw [← waits_filter]
    simpa [State.requestsOf] using hw.lookup.filter fun y => y.2.entry == e'
  refine t.waitingKept_iff.2 ⟨fun e' => ?_, fun e' en he' hd => ?_⟩
  · rw [hw.entries, Vector.getElem_set_fin]
    apply List.eq_toList_of_perm
    by_cases hee : e = e'
    · subst hee
      simpa [h.idle] using hperm e
    · simpa [hee, h.others e' (Ne.symm hee)] using hperm e'
  · rw [hw.entries, Vector.getElem_set_fin] at he'
    split_ifs at he' with hee
    · rcases (hw.admits en he').complete hd with hboth | ⟨en0, he0, hd0, hfound, hgrant⟩
      · exact hboth
      · rw [← hfound, ← hgrant]
        exact h.complete e en0 he0 hd0
    · exact h.complete e' en he' hd

theorem State.waitingKept_entryEvent (hs : s.WaitingKept) (h : s.EntryEvent t) : t.WaitingKept := by
  cases h with
  | same hentries hlookup => rwa [State.WaitingKept, hentries, hlookup]
  | wrote e x hidle hwrote => exact (hs.but hidle).wrote hwrote

/-- A LOOKUP request taken out leaves its entry with nothing waiting. -/
theorem State.waitingBut_popped {u : State} {n : Fin 4} {q : LookupRequest} (hs : s.WaitingKept)
    (h : s.Popped n (.lookup q) u) : u.WaitingBut q.entry ∧ u.entries[q.entry] ≠ none := by
  obtain ⟨hmatched, hcomplete⟩ := s.waitingKept_iff.1 hs
  have hentries : u.entries = s.entries := h.same .entries (by simp)
  have hperm : ∀ e', (s.requestsOf e').Perm ((if q.entry = e' then [(n, q)] else []) ++ u.requestsOf e') := fun e' => by
    have hfilter := h.lookup.filter fun y => y.2.entry == e'
    by_cases hqe : q.entry = e'
    · simpa [State.requestsOf, Served.lookups, hqe] using hfilter
    · simpa [State.requestsOf, Served.lookups, hqe] using hfilter
  have hown := hperm q.entry
  rw [hmatched q.entry, if_pos rfl] at hown
  have hlength := hown.length_eq
  simp only [List.singleton_append, List.length_cons] at hlength
  have hone : (s.entries[q.entry].bind (Entry.waits q.entry)).toList.length ≤ 1 := by
    cases s.entries[q.entry].bind (Entry.waits q.entry) <;> simp
  refine ⟨⟨List.eq_nil_of_length_eq_zero (by omega), fun e' he' => ?_, hentries ▸ hcomplete⟩, fun hnone => ?_⟩
  · have := hperm e'
    rw [hmatched e', if_neg (Ne.symm he'), List.nil_append] at this
    rw [hentries]
    exact List.eq_toList_of_perm this.symm
  · rw [hentries] at hnone
    rw [hnone] at hlength
    simp at hlength

theorem execBankTurn_waitingKept {n : Fin 4} (hs : s.WaitingKept) (h : execBankTurn n s = .next t) : t.WaitingKept := by
  have hother : ∀ {u : State} {x : Served}, s.Popped n x u → x.lookups n = [] → u.WaitingKept := fun {u x} hpop hx => by
    obtain ⟨hmatched, hcomplete⟩ := s.waitingKept_iff.1 hs
    have hentries : u.entries = s.entries := hpop.same .entries (by simp)
    have hperm : s.lookupWaiting.Perm u.lookupWaiting := by simpa [hx] using hpop.lookup
    refine u.waitingKept_iff.2 ⟨fun e => ?_, hentries ▸ hcomplete⟩
    rw [hentries]
    exact List.eq_toList_of_perm (((hperm.filter _).symm).trans (.of_eq (hmatched e)))
  rcases execBankTurn_cases h with rfl | ⟨x, u, hpop, rfl⟩
  · exact hs
  · cases x with
    | nothing => exact hother hpop rfl
    | upkeep q => exact waitingKept_restsOn.keeps (sameBut_upkeepTurn u q) (hother hpop rfl)
    | sweep b => exact waitingKept_restsOn.keeps (sameBut_sweepTurn u b) (hother hpop rfl)
    | lookup q =>
      obtain ⟨hbut, hused⟩ := State.waitingBut_popped hs hpop
      rcases u.wrote_lookupTurn q with ⟨hnone, -⟩ | ⟨x, hx⟩
      · exact absurd hnone hused
      · exact hbut.wrote hx

/-! ### The withdrawal of a probe (R102) -/

theorem State.lookupWaiting_withdrawProbe (s : State) (e : Fin 64) :
    (s.withdrawProbe e).lookupWaiting = s.lookupWaiting.filter fun x => !(x.2.entry == e && x.2.kind == .probe) := by
  simp only [State.lookupWaiting, State.withdrawProbe, List.filter_flatMap]
  exact List.flatMap_congr fun n _ => by simp [List.filter_map, Function.comp_def]

/-- An entry in PROBE_HOME or PROBE_ALT waits for a probe. -/
theorem Entry.waits_probe {en : Entry} (h : en.state = .probeHome ∨ en.state = .probeAlt) {x : Fin 4 × LookupRequest}
    (hx : en.waits e = some x) : x.2.kind = .probe := by
  rcases h with h | h <;> (simp only [Entry.waits, h, Option.some.injEq] at hx; subst hx; rfl)

theorem State.waitingBut_withdrawProbe {en : Entry} (hs : s.WaitingKept) (he : s.entries[e] = some en)
    (hst : en.state = .probeHome ∨ en.state = .probeAlt) : (s.withdrawProbe e).WaitingBut e := by
  obtain ⟨hmatched, hcomplete⟩ := s.waitingKept_iff.1 hs
  have hfilter : ∀ e', (s.withdrawProbe e).requestsOf e'
      = (s.requestsOf e').filter fun x => !(x.2.entry == e && x.2.kind == .probe) := fun e' => by
    rw [State.requestsOf, State.lookupWaiting_withdrawProbe, List.filter_comm]
    rfl
  refine ⟨?_, fun e' he' => ?_, hcomplete⟩
  · rw [hfilter, hmatched e, he, List.filter_eq_nil_iff]
    intro x hx
    have hw : en.waits e = some x := by simpa using hx
    simp [Entry.waits_entry hw, Entry.waits_probe hst hw]
  · rw [hfilter, hmatched e', List.filter_eq_self.2 fun x hx => ?_]
    · rfl
    · obtain ⟨en', -, hw⟩ := Option.bind_eq_some_iff.1 (Option.mem_toList.1 hx)
      simp [Entry.waits_entry hw, he']

theorem State.waitingKept_holdEntry (hs : s.WaitingKept) (e : Fin 64) : (s.holdEntry e).WaitingKept := by
  unfold State.holdEntry
  split
  · exact hs
  · rename_i en he
    split
    · rename_i hst
      exact (State.waitingBut_withdrawProbe hs he hst.1).wrote (State.wrote_answerAndFree _ _ _ _)
    · exact hs

end WaitingBut

theorem State.waitingKept_of_idle {s : State} (hbanks : ∀ n : Fin 4, s.banks[n].lookup = [])
    (hentries : ∀ e : Fin 64, s.entries[e] = none) : s.WaitingKept := by
  refine s.waitingKept_iff.2 ⟨fun e => ?_, fun e en he => by rw [hentries e] at he; cases he⟩
  rw [State.requestsOf, State.lookupWaiting_of_forall hbanks, hentries e]
  rfl

/-- Settles O59: a turn serves the one request of its entry, and every write to an entry queues the request its new state waits
for. -/
theorem stepsKeepRequestsMatched : Obligations.StepsKeepRequestsMatched := by
  intro s t hs h
  refine waitingKept_restsOn.keeps_step
    (fun u => State.waitingKept_of_idle (fun n => by rw [State.coldReset_banks]; rfl) fun e => by simp [State.coldReset, State.cold])
    (fun u _ => State.waitingKept_of_idle (fun n => by rw [State.warmReset_banks]; rfl) fun e => by
      simp [State.warmReset, State.resetService]) (fun u hu => hu) (fun i u v hr _ hu hv => ?_) hs h
  by_cases hi : isTurnOrEmergency i = true
  · cases i with
    | bankTurn n => exact execBankTurn_waitingKept hu hv
    | emgAssert =>
      have hlevel : ({ u with emg := true } : State).WaitingKept := hu
      cases hv
      split
      · exact hu
      · split
        · exact hlevel
        · exact List.foldlRecOn _ _ hlevel fun w hw e _ => State.waitingKept_holdEntry hw e
    | _ => simp [isTurnOrEmergency] at hi
  · exact State.waitingKept_entryEvent hu (exec_entryEvent hr (by simpa using hi) hv)

end Sys2Proof.Machine

/-! ## The state after reset -/

namespace Sys2Proof.Machine

/-- Settles O50: the state after reset stands as a cold reset and its end leave it. -/
theorem resetMeetsTheInvariants : Obligations.ResetMeetsTheInvariants := by
  have hbanks : (∀ n : Fin 4, State.reset.banks[n].upkeep = []) ∧ ∀ n : Fin 4, State.reset.banks[n].lookup = [] := by
    constructor <;> intro n <;> simp [State.reset, State.cold, coldBank]
  have hentries : ∀ e : Fin 64, State.reset.entries[e] = none := fun e => by simp [State.reset, State.cold]
  refine ⟨?_, ?_, ?_, ?_, ?_, ?_, ?_, ?_, ?_, ?_⟩
  · unfold State.ClockKept Clock.InRange; decide +kernel
  · unfold State.StoreKept; decide +kernel
  · exact State.recordsKept_of_idle (fun x hx => absurd hx List.not_mem_nil) hbanks.1
  · exact State.keysKept_of_none (Store.housed_of_empty rfl) (State.upkeepWaiting_of_forall hbanks.1) (by decide)
  · exact State.tripsKept_of_none rfl (State.lifetimeKept_of_cold rfl) hentries
  · unfold State.MapsKept; decide +kernel
  · unfold State.ServiceKept; decide +kernel
  · exact State.tagsKept_of_free hentries
  · exact State.waitingKept_of_idle hbanks.2 hentries
  · unfold State.QueueKept; decide +kernel

end Sys2Proof.Machine

/-! ## Commands of the port (R170, R171, R191, R195) -/

namespace Sys2Proof.Machine

theorem State.storeCommand_isCommand (s : State) (fell : Fall) (args : List Byte) (c : Option StoreCommand) :
    ∃ body : State → State, s.storeCommand fell args c = s.command fell args body := ⟨_, rfl⟩

theorem State.plainCommand_isCommand (s : State) (fell : Fall) (args : List Byte) (effect : State → State) :
    ∃ body : State → State, s.plainCommand fell args effect = s.command fell args body := ⟨_, rfl⟩

theorem State.modeCommand_isCommand (s : State) (fell : Fall) (args : List Byte) (m : AnswerMode) :
    ∃ body : State → State, s.modeCommand fell args m = s.command fell args body := ⟨_, rfl⟩

/-- A good COMMAND frame is a command to the engine, whatever its code. -/
theorem exec_command {i : Instr} {args : List Byte} (h : commandArgs i = some args) (hw : WellFormed i = true)
    (s : State) : ∃ body : State → State, exec i s = s.command (commandFell i) args body := by
  cases i with
  | unknownCommand fell code args' =>
    cases h
    have hcode : knownCodes.contains code.toNat = false := by
      simp only [WellFormed, Bool.and_eq_true, Bool.not_eq_true'] at hw
      exact hw.1
    refine ⟨fun t => t.finishPlain .unknownCommand, ?_⟩
    change execUnknownCommand fell code args s = _
    simp only [execUnknownCommand, hcode, Bool.false_eq_true, if_false]
    rfl
  | coldReset | warmReset | resetEnd | tickEdge | internalTick | clockEnd | tripExpiry | emgAssert | emgRelease
  | frameError | response | bankTurn | sweepIntervalExpiry | poll | pollAnswer | pollAnswerTimeout | assign | decline
  | groupState | linkAnswer | dispatchBadFrame | dispatchFrameGap | frameTransmit | frameSent | offerExpiry
  | linkCheckTimer | attnPulseEnd | frameBegins => cases h
  | putCredential | getCredential | dropCredential | setState | replenish | readSlot =>
    cases h
    exact s.storeCommand_isCommand _ args _
  | commitMap | discardMap | readWatch | sweepNow | readStatus | restart =>
    cases h
    dsimp only [exec, execCommitMap, execDiscardMap, execReadWatch, execSweepNow, execReadStatus, execRestart]
    exact s.plainCommand_isCommand _ args _
  | barDrop | unbarDrop =>
    cases h
    exact s.modeCommand_isCommand _ args _
  | _ =>
    cases h
    dsimp only [exec]
    exact ⟨_, rfl⟩

/-- Settles O9: every command comes by `State.command`, which in WORKING writes only the outcome. -/
theorem workingRefusesEveryCommand : Obligations.WorkingRefusesEveryCommand := by
  intro i args s hargs hw hears hworking
  obtain ⟨body, hbody⟩ := exec_command hargs hw s
  rw [hbody, State.command_working hears hworking]

/-! ### Reading and writing transactions -/

/-- A code that names no command. -/
theorem commandOfCode_unknown (fell : Fall) {code : Byte} (args : List Byte) (h : knownCodes.contains code.toNat = false) :
    commandOfCode fell code args = .unknownCommand fell code args := by
  unfold commandOfCode
  split
  all_goals try rfl
  all_goals
    rename_i hn
    rw [hn] at h
    simp [knownCodes] at h

/-- A command's code and arguments spell it. -/
theorem encodePort_of_commandArgs {i : Instr} {args : List Byte} (h : commandArgs i = some args) (hw : WellFormed i = true) :
    ∃ code, encodePort i = some (commandBytes code args) ∧ commandOfCode (commandFell i) code args = i
      ∧ args.length ≤ 255 := by
  cases i with
  | unknownCommand fell code args' =>
    cases h
    simp only [WellFormed, Bool.and_eq_true, Bool.not_eq_true', argsFit, decide_eq_true_eq] at hw
    obtain ⟨hcode, hlen⟩ := hw
    exact ⟨code, rfl, commandOfCode_unknown _ _ hcode, hlen⟩
  | coldReset | warmReset | resetEnd | tickEdge | internalTick | clockEnd | tripExpiry | emgAssert | emgRelease
  | frameError | response | bankTurn | sweepIntervalExpiry | poll | pollAnswer | pollAnswerTimeout | assign | decline
  | groupState | linkAnswer | dispatchBadFrame | dispatchFrameGap | frameTransmit | frameSent | offerExpiry
  | linkCheckTimer | attnPulseEnd | frameBegins => cases h
  | _ =>
    cases h
    exact ⟨_, rfl, rfl, of_decide_eq_true hw⟩

/-- What the code of a good COMMAND frame makes of it. -/
theorem commandOfCode_spec (fell : Fall) (code : Byte) {args : List Byte} (hlen : args.length ≤ 255) :
    commandArgs (commandOfCode fell code args) = some args
      ∧ encodePort (commandOfCode fell code args) = some (commandBytes code args)
      ∧ WellFormed (commandOfCode fell code args) = true ∧ commandFell (commandOfCode fell code args) = fell := by
  cases hknown : knownCodes.contains code.toNat with
  | false =>
    rw [commandOfCode_unknown fell args hknown]
    exact ⟨rfl, rfl, by rw [WellFormed, hknown]; exact decide_eq_true hlen, rfl⟩
  | true =>
    have hfit : argsFit args = true := decide_eq_true hlen
    have hcode : BitVec.ofNat 8 code.toNat = code := by simp
    unfold commandOfCode
    split
    case h_37 => simp_all [knownCodes]
    all_goals
      rename_i hn
      rw [hn] at hcode
      subst hcode
      exact ⟨rfl, rfl, hfit, rfl⟩

theorem classify_commandBytes (code : Byte) {args : List Byte} (hlen : args.length ≤ 255) :
    classify (commandBytes code args) = .command code args := by
  obtain ⟨l, hl⟩ : ∃ l, commandBytes code args = Config.commandKind :: l := ⟨_, rfl⟩
  have hgood := (goodCommand_iff l code args).2 ⟨hlen, hl.symm⟩
  rw [hl]
  simp [classify, hgood]

theorem classify_eq_command {bytes : List Byte} {code : Byte} {args : List Byte} (h : classify bytes = .command code args) :
    args.length ≤ 255 ∧ bytes = commandBytes code args := by
  unfold classify at h
  split at h
  · cases h
  · split at h
    · rename_i hkind
      split at h
      · rename_i hgood
        cases h
        obtain ⟨hlen, hbytes⟩ := (goodCommand_iff _ _ _).1 hgood
        exact ⟨hlen, hkind ▸ hbytes⟩
      · cases h
    · split at h <;> cases h

theorem responseBytes_succ (n : Nat) : responseBytes (n + 1) = Config.responseKind :: List.replicate n 0 := by
  simp [responseBytes, List.take_replicate]

theorem classify_responseBytes {n : Nat} (h : 0 < n) : classify (responseBytes n) = .response := by
  obtain ⟨m, rfl⟩ := Nat.exists_eq_succ_of_ne_zero h.ne'
  rw [responseBytes_succ]
  rfl

/-- Settles O10: a transaction is classified by its kind byte and, for a COMMAND, its length and sum. -/
theorem portBytesSpellOneCommand : Obligations.PortBytesSpellOneCommand := by
  refine ⟨fun i bytes hw henc => ?_, fun fell bytes i args hdec hargs => ?_⟩
  · cases hargs : commandArgs i with
    | some args =>
      obtain ⟨code, hcode, hspell, hlen⟩ := encodePort_of_commandArgs hargs hw
      rw [hcode] at henc
      cases henc
      rw [decodePort, classify_commandBytes code hlen]
      exact congrArg some hspell
    | none =>
      cases i with
      | frameError fell b =>
        cases henc
        have hclass : classify bytes = .discarded := by simpa [WellFormed] using hw
        rw [decodePort, hclass]
        rfl
      | response fell n =>
        cases henc
        have hn : 0 < n := by simpa [WellFormed] using hw
        obtain ⟨m, rfl⟩ := Nat.exists_eq_succ_of_ne_zero hn.ne'
        rw [decodePort, classify_responseBytes hn, responseBytes_succ]
        simp [commandFell]
      | coldReset | warmReset | resetEnd | tickEdge | internalTick | clockEnd | tripExpiry | emgAssert | emgRelease
      | bankTurn | sweepIntervalExpiry | poll | pollAnswer | pollAnswerTimeout | assign | decline
      | groupState | linkAnswer | dispatchBadFrame | dispatchFrameGap | frameTransmit | frameSent | offerExpiry
      | linkCheckTimer | attnPulseEnd | frameBegins => cases henc
      | _ => cases hargs
  · unfold decodePort at hdec
    split at hdec
    · cases hdec
    · cases hdec; cases hargs
    · rename_i code args' hclass
      obtain ⟨hlen, rfl⟩ := classify_eq_command hclass
      obtain ⟨hargs', henc, hw, hfell⟩ := commandOfCode_spec fell code hlen
      cases hdec
      rw [hargs'] at hargs
      cases hargs
      exact ⟨henc, hw, hfell⟩
    · cases hdec; cases hargs

/-! ### Transactions that are no event (R181) -/

/-- A transaction that the port does not take is no event. -/
theorem exec_of_portShut {i : Instr} {s : State} (hw : WellFormed i = true) (h : s.portShut (commandFell i) = true)
    (hport : (encodePort i).isSome = true) : exec i s = .next s := by
  cases hargs : commandArgs i with
  | some args =>
    obtain ⟨body, hbody⟩ := exec_command hargs hw s
    rw [hbody, State.command_shut h]
  | none =>
    cases i with
    | frameError fell b =>
      have hclass : classify b = .discarded := by simpa [WellFormed] using hw
      change execFrameError fell b s = _
      rw [execFrameError, hclass]
      exact congrArg _ (if_pos h)
    | response fell n => exact congrArg _ (if_pos (.inl h))
    | coldReset | warmReset | resetEnd | tickEdge | internalTick | clockEnd | tripExpiry | emgAssert | emgRelease
    | bankTurn | sweepIntervalExpiry | poll | pollAnswer | pollAnswerTimeout | assign | decline
    | groupState | linkAnswer | dispatchBadFrame | dispatchFrameGap | frameTransmit | frameSent | offerExpiry
    | linkCheckTimer | attnPulseEnd | frameBegins => cases hport
    | _ => cases hargs

/-- A frame ended by its length byte is not good (R190). -/
theorem readDispatch_of_overlong {bytes : List Byte} (h : dispatchOverlong bytes = true) : readDispatch bytes = none := by
  unfold dispatchOverlong at h
  split at h
  · simp only [Bool.and_eq_true, decide_eq_true_eq] at h
    exact if_neg fun hc => by omega
  · cases h

/-- Settles O4: every row asks first whether the part is in reset, a transaction whether it is from before its end. -/
theorem resetHoldsThePart : Obligations.ResetHoldsThePart := by
  refine ⟨fun i s hw hfell => ?_, fun s hreset => ⟨?_, ?_, rfl, fun i hw hcold hend hassert hrelease => ?_⟩⟩
  · refine exec_of_portShut hw (by simp [State.portShut, hfell]) ?_
    cases i <;> first | rfl | cases hfell
  · simp [State.attn, hreset]
  · change Host.Outcome.next _ = _
    cases hemg : s.emg with
    | false => simp [hreset]
    | true => simp [← hemg]
  · cases hport : encodePort i with
    | some bytes => exact exec_of_portShut hw (by simp [State.portShut, hreset]) (by simp [hport])
    | none =>
      cases i with
      | coldReset high => exact absurd rfl (hcold high)
      | resetEnd => exact absurd rfl hend
      | emgAssert => exact absurd rfl hassert
      | emgRelease => exact absurd rfl hrelease
      | warmReset => exact congrArg _ (if_pos hreset)
      | tickEdge | internalTick => exact congrArg _ (if_pos (.inl hreset))
      | clockEnd | tripExpiry => exact congrArg _ (if_neg fun h => h.1 hreset)
      | assign | decline | groupState | linkAnswer =>
        dsimp only [exec, execAssign, execDecline, execGroupState, execLinkAnswer]
        exact State.receive_inReset hreset _
      | bankTurn | pollAnswer | pollAnswerTimeout | frameSent | offerExpiry | attnPulseEnd | frameBegins =>
        exact congrArg _ (if_pos hreset)
      | poll | dispatchFrameGap | frameTransmit | linkCheckTimer | sweepIntervalExpiry => exact congrArg _ (if_pos (.inl hreset))
      | dispatchBadFrame bytes =>
        have hbad : (readDispatch bytes).isSome = false := by
          simp only [WellFormed, Bool.or_eq_true, Bool.and_eq_true] at hw
          rcases hw with hlong | ⟨-, hnone⟩
          · rw [readDispatch_of_overlong hlong]; rfl
          · simpa using hnone
        change execDispatchBadFrame bytes s = _
        simp [execDispatchBadFrame, hbad, hreset]
      | _ => cases hport

end Sys2Proof.Machine

/-! ## Discarded transactions and the RESPONSE (R170 to R174, R180, R191) -/

namespace Sys2Proof.Machine

/-- A first byte that names neither kind, or a COMMAND frame that is not good, is discarded (R171). -/
theorem classify_discarded {kind : Byte} {rest : List Byte}
    (h : (kind ≠ 195 ∧ kind ≠ 60)
      ∨ (kind = 195 ∧ ∀ (code check : Byte) (args : List Byte),
          rest = code :: byte1 args.length :: (args ++ [check]) → args.length ≤ 255 →
            (rest.map BitVec.toNat).sum % 256 ≠ 0)) :
    classify (kind :: rest) = .discarded := by
  rcases h with ⟨hcommand, hresponse⟩ | ⟨rfl, hbad⟩
  · exact (if_neg hcommand).trans (if_neg hresponse)
  · have hgood : goodCommand rest = none := by
      refine Option.eq_none_iff_forall_ne_some.2 fun ⟨code, args⟩ hgood => ?_
      obtain ⟨hlen, hbytes⟩ := (goodCommand_iff _ _ _).1 hgood
      have hrest : rest = code :: byte1 args.length :: (args ++ [byte1 (256 - byteSum (code :: byte1 args.length :: args))]) :=
        (List.cons.inj hbytes).2
      refine hbad code _ args hrest hlen ?_
      rw [← byteSum_eq, hrest]
      exact (byteSum_append_check (code :: byte1 args.length :: args) _).2 rfl
    simp [classify, Config.commandKind, hgood]

theorem exec_frameError {fell : Fall} {s : State} (hs : s.Hears fell) {kind : Byte} {rest : List Byte}
    (h : classify (kind :: rest) = .discarded) :
    exec (.frameError fell (kind :: rest)) s
      = .next { s with
          port := { s.port with outcome := .frameError, out := s.statusByte fell :: List.replicate rest.length 0 } } := by
  change execFrameError fell (kind :: rest) s = _
  simp only [execFrameError, h, State.portShut_of_hears hs, Bool.false_eq_true, if_false]
  simp [State.clockOut, State.discardFrame, padded_singleton]

/-- Settles O7: what is neither a good COMMAND nor a RESPONSE writes the outcome alone. -/
theorem discardedAndUnknownTransactions : Obligations.DiscardedAndUnknownTransactions := by
  refine ⟨fun _ _ => rfl, fun fell s kind rest hs hbad => exec_frameError hs (classify_discarded hbad),
    fun fell s code args hs hcode => ?_⟩
  have hunknown : knownCodes.contains code.toNat = false := by simpa [knownCodes] using hcode
  change execUnknownCommand fell code args s = _
  simp only [execUnknownCommand, hunknown, Bool.false_eq_true, if_false, State.command_ready hs, State.finishPlain_eq]

/-! ### The RESPONSE -/

/-- The status byte's four fields (R191). -/
theorem State.statusByte_toNat (s : State) (fell : Fall) :
    (s.statusByte fell).toNat = (s.engineAtFall fell).code + 4 * s.port.outcome.code + 16 * s.port.indication.code := by
  refine byte1_toNat ?_
  cases s.engineAtFall fell <;> cases s.port.outcome <;> cases s.port.indication <;> decide

theorem State.engineAtFall_code (s : State) (fell : Fall) :
    (s.engineAtFall fell).code = (match s.port.engine with
      | .idle => 0
      | .working => 1
      | .done => if fell = .working then 1 else 2) := by
  unfold State.engineAtFall
  cases s.port.engine with
  | done => cases fell <;> rfl
  | _ => cases fell <;> rfl

theorem State.engineAtFall_eq_done {s : State} {fell : Fall} :
    s.engineAtFall fell = .done ↔ s.port.engine = .done ∧ fell ≠ .working := by
  unfold State.engineAtFall
  cases s.port.engine <;> cases fell <;> simp

/-- A RESPONSE that falls outside DONE clocks out the status byte and fill (R174). -/
theorem exec_response_outside {fell : Fall} {s : State} (hs : s.Hears fell) {clocks : Nat} (hc : 0 < clocks)
    (h : s.engineAtFall fell ≠ .done) :
    exec (.response fell clocks) s
      = .next { s with port := { s.port with out := s.statusByte fell :: List.replicate (clocks - 1) 0 } } := by
  obtain ⟨n, rfl⟩ := Nat.exists_eq_succ_of_ne_zero hc.ne'
  change execResponse fell (n + 1) s = _
  simp [execResponse, State.portShut_of_hears hs, h, State.afterStatus, State.clockOut, padded_singleton]

/-- Consuming the result (R174, R177, R180). -/
theorem State.consume_eq (s : State) :
    s.consume = { s with
      port := { s.port with engine := .idle, buffer := none }
      attention := { s.attention with
        pending := s.attention.pending &&& 191#8
        release :=
          if s.attention.mode = AttnMode.pulse ∧ s.attention.pending &&& s.attention.enables &&& 64#8 ≠ 0
              ∧ s.attention.pending &&& 191#8 &&& s.attention.enables ≠ 0 then 2
          else s.attention.release } } := by
  have hmask : ~~~(64#8) = (191#8 : Byte) := by decide
  unfold State.consume Attention.pulse
  simp only [Attention.clear, Attention.live, Source.mask_commandDone, hmask, Config.releaseLength]
  split_ifs <;> rfl

theorem exec_response_done {s : State} (hs : s.Hears .same) {clocks : Nat} (hc : 0 < clocks) {r : Result}
    (hdone : s.port.engine = .done) (hbuffer : s.port.buffer = some r) :
    exec (.response .same clocks) s
      = .next (if 2 ≤ clocks then
            ({ s with port := { s.port with
              out := padded clocks (s.statusByte .same :: byte1 r.code.code :: byte1 r.bytes.length :: r.bytes) } }).consume
          else { s with port := { s.port with
              out := padded clocks (s.statusByte .same :: byte1 r.code.code :: byte1 r.bytes.length :: r.bytes) } }) := by
  have hfall : s.engineAtFall .same = .done := State.engineAtFall_eq_done.2 ⟨hdone, by decide⟩
  change execResponse .same clocks s = _
  simp only [execResponse, State.portShut_of_hears hs, hfall, Bool.false_eq_true, hc.ne', or_self, if_false, true_and,
    State.afterStatus, if_true, hbuffer, State.clockOut, Result.bytesOut]

/-- Settles O8: the status byte is the sum of its fields; a RESPONSE that falls in DONE clocks out the result and, from the second
byte on, consumes it. -/
theorem responseConsumesTheResult : Obligations.ResponseConsumesTheResult := by
  refine ⟨fun fell s => ?_, fun fell clocks s hs hc => ⟨fun h => ?_, fun r hdone hfell hbuffer => ?_⟩⟩
  · have hengine : (s.engineAtFall fell).code < 3 := by cases s.engineAtFall fell <;> decide
    have houtcome : s.port.outcome.code < 4 := by cases s.port.outcome <;> decide
    have hindication : s.port.indication.code < 3 := by cases s.port.indication <;> decide
    have hout : (s.statusByte fell).toNat / 4 % 4 = s.port.outcome.code := by rw [State.statusByte_toNat]; omega
    have hind : (s.statusByte fell).toNat / 16 % 4 = s.port.indication.code := by rw [State.statusByte_toNat]; omega
    have hfall : (s.statusByte fell).toNat % 4 = (s.engineAtFall fell).code := by rw [State.statusByte_toNat]; omega
    refine ⟨hfall.trans (State.engineAtFall_code s fell), hout.trans ?_, hind.trans ?_, ?_⟩
    · cases s.port.outcome <;> rfl
    · cases s.port.indication <;> rfl
    · rw [State.statusByte_toNat]; omega
  · refine exec_response_outside hs hc fun hfall => ?_
    obtain ⟨hdone, hfell⟩ := State.engineAtFall_eq_done.1 hfall
    exact h.elim (fun hn => hn hdone) hfell
  · subst hfell
    rw [exec_response_done hs hc hdone hbuffer]
    intro out
    by_cases hone : clocks = 1
    · rw [if_neg (by omega), if_pos hone]
      rfl
    · rw [if_pos (by omega), if_neg hone, State.consume_eq]
      rfl

end Sys2Proof.Machine

/-! ## The link check's remark (R185) -/

namespace Sys2Proof.Machine

/-- Refutes O12: two bytes that differ by 255 leave both sums as they were, as 0 and 255 exchanged show. -/
theorem not_exchangedBytesChangeCheckB : ¬ Obligations.ExchangedBytesChangeCheckB := by
  intro h
  exact h [] [] [] 0 255 (by decide) (by decide)

end Sys2Proof.Machine

/-! ## Steps and resets (R146, R147, R181 to R183) -/

namespace Sys2Proof.Machine

/-- The queue of a millisecond, in the terms of the rows that are due. -/
theorem State.millisecond_eq {s : State} (h : s.inReset = false) :
    s.millisecond = { s with
      reference := s.reference + 1
      clock := { s.clock with divider := if s.clock.source = .internal then s.clock.divider + 1 else s.clock.divider }
      sweeper := { s.sweeper with timer := s.sweeper.timer.map fun n => n - 1 }
      dispatch := { s.dispatch with checkTimer := s.dispatch.checkTimer.map fun n => n - 1 }
      pending := s.count.due } := by
  have hclock : s.count.clock
      = { s.clock with divider := if s.clock.source = .internal then s.clock.divider + 1 else s.clock.divider } := by
    unfold State.count
    dsimp only
    split <;> rfl
  unfold State.millisecond
  rw [if_neg (by simp [h])]
  rw [← hclock]
  rfl

theorem step_of_empty {s : State} (h : s.pending = []) : step s = .next s.millisecond := by
  unfold step
  rw [h]

/-- Settles O1: a step is `exec` of the queue's head, or a millisecond. -/
theorem stepTakesTheFrontCommand : Obligations.StepTakesTheFrontCommand := by
  refine ⟨fun c s rest h => ?_, fun s h hreset => ?_, fun s h hreset => ⟨s.millisecond, step_of_empty h, ?_, ?_⟩⟩
  · unfold step
    rw [h]
  · rw [step_of_empty h, State.millisecond, if_pos hreset]
  · rw [State.millisecond_eq hreset]
  · refine ⟨(List.finRange 64).filter s.millisecond.offerDue, ?_, (List.pairwise_lt_finRange 64).filter _, fun e => ?_⟩
    · have hdue : s.millisecond.pending = s.millisecond.due := by
        unfold State.millisecond
        rw [if_neg (by simp [hreset])]
        rfl
      rw [hdue, State.due_eq]
    · rw [List.mem_filter, State.offerDue_iff]
      simp

end Sys2Proof.Machine

/-! ## What a cold and a warm reset leave (R25, R37, R46, R104, R128, R146, R147, R159, R169, R181 to R183) -/

namespace Sys2Proof.Machine

/-- A state whose blocks, but for the transmit queue and the LINK CHECK timer, stand as a cold reset leaves them. -/
theorem State.cold_of {t : State} (queue : List TxFrame) (timer : Option Nat)
    (h : t = { State.cold with
      emg := t.emg, inReset := t.inReset, pending := t.pending
      dispatch := { resetDispatch with queue := queue, checkTimer := timer } }) : t.Cold := by
  rw [h]
  constructor
  case store => exact ⟨rfl, rfl, rfl⟩
  case maps => exact ⟨rfl, by simp [State.cold, coldMap], by simp [State.cold, coldMap], by simp [State.cold, coldMap],
    by simp [State.cold, coldMap], rfl⟩
  case links => intro l; simp [State.cold, coldLink]
  case drops => intro l d; simp [State.cold, coldLink, coldDrop]
  case dispatch => simp [resetDispatch]
  case port => exact ⟨rfl, rfl, rfl, rfl⟩
  case attention => exact ⟨rfl, rfl, rfl, by simp [State.attn, Attention.live, State.cold]⟩
  case clock | holidays | settings | watch | trips | sweeper => rfl
  all_goals intro n; simp [State.cold, coldBank, coldPattern]

/-- Settles O2: a cold reset writes every block, its end only the first LINK CHECK and its timer. -/
theorem coldResetLeavesTheColdState : Obligations.ColdResetLeavesTheColdState := by
  refine ⟨fun high s => ?_, State.cold_of [.linkCheck] (some 1000) rfl, rfl, rfl, rfl, rfl, rfl⟩
  cases high with
  | true => exact ⟨_, rfl, State.cold_of [.linkCheck] (some 1000) rfl, rfl, rfl, rfl, rfl, rfl, rfl⟩
  | false => exact ⟨_, rfl, State.cold_of [] none rfl, rfl, rfl, rfl, rfl, rfl, rfl⟩

/-! ### The lobbies that drop records give -/

theorem State.any_allDrops {s : State} {p : Drop → Bool} :
    s.allDrops.any p = true ↔ ∃ (l : Fin 4) (d : Fin 28), p (s.drop l d) = true := by
  have h : s.allDrops.any p = (s.allDrops.map p).any id := by simp [List.any_map]
  rw [h, State.map_allDrops]
  simp [List.any_flatMap, List.any_map]

theorem Drop.enabled_iff (x : Drop) : x.enabled = true ↔ x.state ≠ .disabled := by simp [Drop.enabled]

section ServiceOf
variable {s : State} {n : Fin 16}

theorem State.any_answering : (s.allDrops.any fun d => d.lobby == n && d.answering) = true ↔
    ∃ l d, (s.drop l d).lobby = n ∧ ((s.drop l d).state = .online ∨ (s.drop l d).state = .degraded) := by
  simp only [State.any_allDrops, Bool.and_eq_true, beq_iff_eq, Drop.answering_iff]

theorem State.any_enabled : (s.allDrops.any fun d => d.lobby == n && d.enabled) = true ↔
    ∃ l d, (s.drop l d).lobby = n ∧ (s.drop l d).state ≠ .disabled := by
  simp only [State.any_allDrops, Bool.and_eq_true, beq_iff_eq, Drop.enabled_iff]

theorem State.serviceOf_served
    (h : ∃ l d, (s.drop l d).lobby = n ∧ ((s.drop l d).state = .online ∨ (s.drop l d).state = .degraded)) :
    s.serviceOf n = .served :=
  if_pos (State.any_answering.2 h)

theorem State.serviceOf_unserved (h : ∃ l d, (s.drop l d).lobby = n ∧ (s.drop l d).state ≠ .disabled)
    (hno : ∀ l d, (s.drop l d).lobby = n → (s.drop l d).state ≠ .online ∧ (s.drop l d).state ≠ .degraded) :
    s.serviceOf n = .unserved := by
  refine (if_neg fun ha => ?_).trans (if_pos (State.any_enabled.2 h))
  obtain ⟨l, d, hl, hst⟩ := State.any_answering.1 ha
  exact hst.elim (hno l d hl).1 (hno l d hl).2

theorem State.serviceOf_vacant (h : ∀ l d, (s.drop l d).lobby = n → (s.drop l d).state = .disabled) :
    s.serviceOf n = .vacant := by
  refine (if_neg fun ha => ?_).trans (if_neg fun he => ?_)
  · obtain ⟨l, d, hl, hst⟩ := State.any_answering.1 ha
    rw [h l d hl] at hst
    exact hst.elim (fun hs => by cases hs) fun hs => by cases hs
  · obtain ⟨l, d, hl, hst⟩ := State.any_enabled.1 he
    exact hst (h l d hl)

end ServiceOf

/-! ### The warm reset -/

theorem State.warmReset_drop (s : State) (l : Fin 4) (d : Fin 28) : s.warmReset.drop l d = (s.drop l d).warm := by
  simp [State.drop, State.warmReset, State.resetService, Link.warm]

theorem Drop.warm_eq (x : Drop) :
    x.warm = { lobby := x.lobby, state := if x.state = .disabled then .disabled else .seeking, mode := x.mode, good := 0,
               failed := 0, blockPolls := 0, blockFailed := 0, transaction := none, side := none } := by
  have hstate : (if x.enabled = true then DropState.seeking else .disabled)
      = if x.state = .disabled then .disabled else .seeking := by
    by_cases h : x.state = .disabled
    · rw [if_pos h, if_neg (by rw [Drop.enabled_iff]; exact fun hn => hn h)]
    · rw [if_neg h, if_pos (x.enabled_iff.2 h)]
  simp [Drop.warm, Drop.zeroed, Drop.closed, hstate]

theorem State.warmReset_service (s : State) (n : Fin 16) : s.warmReset.service[n] = s.warmReset.serviceOf n := by
  simp [State.warmReset, State.resetService, State.serviceOf, State.allDrops]

theorem execWarmReset_eq {s : State} (h : s.inReset = false) : exec .warmReset s = .next s.warmReset :=
  congrArg _ (if_neg (by simp [h]))

/-- The end of a reset (R146, R147, R181). -/
theorem State.endReset_eq (s : State) :
    s.endReset = { s with
      inReset := false
      dispatch := { s.dispatch with
        checkTimer := some 1000
        queue := if .linkCheck ∈ s.dispatch.queue then s.dispatch.queue else s.dispatch.queue ++ [.linkCheck] } } := by
  unfold State.endReset DispatchLink.queueLinkCheck
  simp only [List.contains_iff_mem]
  split_ifs <;> rfl

/-- Settles O3: the warm reset, field by field; a RESTART is a warm reset of the state after the taking. -/
theorem warmResetKeepsAndRestartRepeats : Obligations.WarmResetKeepsAndRestartRepeats := by
  refine ⟨fun s hs => ⟨_, execWarmReset_eq hs, rfl, ?_, ?_, ?_, ?_, ?_, ?_, ?_, rfl⟩, fun s => ?_, fun fell s hs =>
    ⟨⟨s.warmReset, s.warmReset.endReset, execWarmReset_eq hs.1.1, rfl, ?_⟩, fun args hargs => ?_⟩⟩
  · intro n
    rw [State.warmReset_banks]
    rfl
  · intro e
    simp [State.warmReset, State.resetService]
  · intro l
    refine ⟨?_, ?_, ?_, fun d => ?_⟩
    · simp [State.warmReset, State.resetService, Link.warm]
    · simp [State.warmReset, State.resetService, Link.warm]
    · simp [State.warmReset, State.resetService, Link.warm]
    · exact (s.warmReset_drop l d).trans (s.drop l d).warm_eq
  · intro n
    rw [State.warmReset_service]
    refine ⟨fun ⟨l, d, hl, hd⟩ => State.serviceOf_unserved ⟨l, d, ?_, ?_⟩ fun l d _ => ?_,
      fun h => State.serviceOf_vacant fun l d hl => ?_⟩
    · rw [State.warmReset_drop, Drop.warm_eq]
      exact hl
    · simp [State.warmReset_drop, Drop.warm_eq, hd]
    · rw [State.warmReset_drop, Drop.warm_eq]
      dsimp only
      split_ifs <;> decide
    · rw [State.warmReset_drop, Drop.warm_eq] at hl ⊢
      exact if_pos (h l d hl)
  · rfl
  · intro g
    simp [State.warmReset, State.resetService, resetDispatch]
  · change resetSweeper _ = _
    simp [resetSweeper, intervalTimer, Config.minute]
  · change execResetEnd s = _
    rw [← State.endReset_eq]
    rfl
  · change execRestart fell [] s = _
    rw [execRestart, State.plainCommand, State.command_ready hs]
    rfl
  · change execRestart fell args s = _
    rw [execRestart, State.plainCommand, State.command_ready hs, if_neg hargs, State.finishPlain_eq]

end Sys2Proof.Machine

/-! ## Ticks (R40 to R45, R151, R152) -/

namespace Sys2Proof.Machine

/-- The last site second falls at the last reading of each counter. -/
theorem Clock.atEnd_iff_siteSecond {c : Clock} (h : c.InRange) : c.atEnd = true ↔ c.siteSecond = 5662310399 := by
  obtain ⟨hday, -, hminute, hsecond⟩ := h
  rw [Clock.atEnd_iff]
  unfold Clock.siteSecond Clock.siteMinute
  omega

/-- One second on, with every carry (R41). -/
theorem Clock.siteSecond_advance {c : Clock} (h : c.InRange) : c.advance.siteSecond = c.siteSecond + 1 := by
  obtain ⟨-, -, hminute, hsecond⟩ := h
  unfold Clock.advance Clock.siteSecond Clock.siteMinute
  split_ifs <;> dsimp only <;> omega

theorem Clock.weekday_advance {c : Clock} (h : c.InRange) :
    c.advance.weekday = if c.minute = 1439 ∧ c.second = 59 then (c.weekday + 1) % 7 else c.weekday := by
  obtain ⟨-, hweekday, -, -⟩ := h
  unfold Clock.advance
  split_ifs <;> dsimp only <;> omega

theorem Clock.source_advance (c : Clock) : c.advance.source = c.source := by
  unfold Clock.advance
  split_ifs <;> rfl

theorem Clock.divider_advance (c : Clock) : c.advance.divider = c.divider := by
  unfold Clock.advance
  split_ifs <;> rfl

/-- The clock after a tick (R41, R42). -/
def Clock.tick (c : Clock) : Clock :=
  if c.state = .running then if c.atEnd then { c with state := .ended } else c.advance else c

theorem Clock.tick_ticked {c c' : Clock} (h : c.InRange) (hs : c'.state = c.state) (hreading : c'.reading = c.reading)
    (hsource : c'.source = c.source) : c.Ticked c'.tick := by
  simp only [Clock.reading, Prod.mk.injEq] at hreading
  obtain ⟨-, hday, hweekday, hminute, hsecond⟩ := hreading
  have hrange : c'.InRange := by
    unfold Clock.InRange
    rw [hday, hweekday, hminute, hsecond]
    exact h
  have hsite : c'.siteSecond = c.siteSecond := by simp only [Clock.siteSecond, Clock.siteMinute, hday, hminute, hsecond]
  have hend : c'.atEnd = true ↔ c.siteSecond = 5662310399 := by rw [Clock.atEnd_iff_siteSecond hrange, hsite]
  unfold Clock.tick
  by_cases hrun : c'.state = .running
  · rw [if_pos hrun]
    have hcrun := hs.symm.trans hrun
    by_cases hlast : c'.atEnd = true
    · rw [if_pos hlast]
      have hsecond' := hend.1 hlast
      exact ⟨hsource, fun hlt => absurd hlt.2 (by omega), fun _ => ⟨rfl, hday, hweekday, hminute, hsecond⟩,
        fun hn => absurd hcrun hn⟩
    · rw [if_neg hlast]
      have hsecond' := fun he => hlast (hend.2 he)
      refine ⟨(Clock.source_advance c').trans hsource, fun _ => ⟨(Clock.advance_state c').trans hrun,
        Clock.inRange_advance hrange hlast, (Clock.siteSecond_advance hrange).trans (by rw [hsite]), ?_⟩,
        fun he => absurd he.2 hsecond', fun hn => absurd hcrun hn⟩
      rw [Clock.weekday_advance hrange, hminute, hsecond, hweekday]
  · rw [if_neg hrun]
    have hcrun : c.state ≠ .running := fun h' => hrun (hs.trans h')
    exact ⟨hsource, fun hlt => absurd hlt.1 hcrun, fun he => absurd he.1 hcrun,
      fun _ => ⟨hs, hday, hweekday, hminute, hsecond⟩⟩

theorem Clock.divider_tick (c : Clock) : c.tick.divider = c.divider := by
  unfold Clock.tick
  split_ifs
  · rfl
  · exact c.divider_advance
  · rfl

/-- The trips after a counted tick (R151). -/
theorem filterMap_count (l : List Trip) :
    l.filterMap Trip.count
      = (l.filter fun x => x.remaining != 1).map fun x => { x with remaining := x.remaining - 1 } := by
  induction l with
  | nil => rfl
  | cons t l ih =>
    by_cases h : t.remaining = 1
    · rw [List.filterMap_cons_none (by simp [Trip.count, h]), List.filter_cons_of_neg (by simp [h]), ih]
    · rw [List.filterMap_cons_some (b := { t with remaining := t.remaining - 1 }) (by simp [Trip.count, h]),
        List.filter_cons_of_pos (by simp [h]), ih, List.map_cons]

/-- A tick, block by block. -/
theorem State.tick_eq (s : State) :
    s.tick = { s with
      clock := s.clock.tick
      trips := if s.emg then s.trips else s.trips.filterMap Trip.count
      attention :=
        if s.clock.state = .running ∧ s.clock.atEnd = true then s.attention.raise .clockEnd else s.attention } := by
  unfold State.tick State.tickTrips State.tickClock Clock.tick
  by_cases hrun : s.clock.state = .running
  · by_cases hend : s.clock.atEnd = true
    · simp only [hrun, hend, if_true, and_self, State.raise]
      split <;> rfl
    · simp only [hrun, hend, if_true, and_false, if_false, Bool.false_eq_true]
      split <;> rfl
  · simp only [hrun, false_and, if_false]
    split <;> rfl

/-- A whole tick: the internal source's divider starts again (R40). -/
theorem State.ticked_wholeTick {s : State} (h : s.clock.InRange) : s.Ticked s.restartDivider.tick := by
  have hclock : s.restartDivider.clock
      = { s.clock with divider := if s.clock.source = .internal then 0 else s.clock.divider } := by
    unfold State.restartDivider
    split <;> rfl
  have hother : s.restartDivider = { s with clock := s.restartDivider.clock } := by
    unfold State.restartDivider
    split <;> rfl
  rw [State.tick_eq]
  refine ⟨?_, ?_, ?_, ?_, ?_⟩
  · dsimp only
    rw [hclock]
    exact Clock.tick_ticked h rfl rfl rfl
  · dsimp only
    rw [Clock.divider_tick, hclock]
  · dsimp only
    rw [hother]
    dsimp only
    rw [filterMap_count]
  · have hend : s.restartDivider.clock.atEnd = true ↔ s.clock.siteSecond = 5662310399 := by
      rw [hclock]
      exact Clock.atEnd_iff_siteSecond h
    have hstate : s.restartDivider.clock.state = s.clock.state := by rw [hclock]
    have hattention : s.restartDivider.attention = s.attention := by rw [hother]
    simp only [hend, hstate, hattention]
    rfl
  · rw [hother]

theorem State.restartDivider_external {s : State} (h : s.clock.source = .external) : s.restartDivider = s :=
  if_neg (by simp [h])

/-- Settles O5: the rows of a tick are the whole tick where it falls due. -/
theorem tickAdvancesClockAndTrips : Obligations.TickAdvancesClockAndTrips := by
  intro s hreset hrange
  have hticked := State.ticked_wholeTick hrange
  have hdue := s.tickDue_iff
  refine ⟨fun hsource => ⟨⟨s.restartDivider.tick, ?_, hticked⟩, ?_⟩, fun hsource => ⟨fun hfull => ?_, fun hless => ?_, ?_⟩,
    ?_, ?_⟩
  · rw [State.restartDivider_external hsource]
    exact congrArg _ (if_neg (by simp [hreset, hsource]))
  · exact congrArg _ (if_pos (.inr (.inl hsource)))
  · refine ⟨s.restartDivider.tick, congrArg _ (if_neg ?_), hticked⟩
    simp [hreset, hsource, hdue.2 fun _ => hfull]
  · have hnot : s.tickDue = false := by
      rw [← Bool.not_eq_true, hdue]
      exact fun hfull => absurd (hfull hsource) (by omega)
    exact congrArg _ (if_pos (.inr (.inr (by rw [hnot]; rfl))))
  · exact congrArg _ (if_pos (.inr hsource))
  · split_ifs with hc
    · obtain ⟨hd, hrun, hlast⟩ := hc
      refine ⟨s.restartDivider.tick, congrArg _ (if_pos ⟨by simp [hreset], hdue.2 hd, hrun, ?_⟩), hticked⟩
      exact (Clock.atEnd_iff_siteSecond hrange).2 hlast
    · refine congrArg _ (if_neg fun hn => hc ?_)
      obtain ⟨-, hd, hrun, hlast⟩ := hn
      exact ⟨hdue.1 hd, hrun, (Clock.atEnd_iff_siteSecond hrange).1 hlast⟩
  · have hany : s.trips.any (fun t => t.remaining == 1) = true ↔ ∃ x ∈ s.trips, x.remaining = 1 := by simp
    split_ifs with hc
    · obtain ⟨hd, hemg, htrip⟩ := hc
      exact ⟨s.restartDivider.tick,
        congrArg _ (if_pos ⟨by simp [hreset], hdue.2 hd, by simp [hemg], hany.2 htrip⟩), hticked⟩
    · refine congrArg _ (if_neg fun hn => hc ?_)
      obtain ⟨-, hd, hemg, htrip⟩ := hn
      exact ⟨hdue.1 hd, by simpa using hemg, hany.1 htrip⟩

end Sys2Proof.Machine

/-! ## The emergency line (R102, R103) -/

namespace Sys2Proof.Machine

/-- An entry in PROBE_HOME or PROBE_ALT whose probe waits. -/
def State.ProbeHeld (s : State) (e : Fin 64) : Prop :=
  (∃ en, s.entries[e] = some en ∧ (en.state = .probeHome ∨ en.state = .probeAlt))
    ∧ ∃ n : Fin 4, ∃ q ∈ s.banks[n].lookup, q.entry = e ∧ q.kind = .probe

theorem State.probeWaits_iff (s : State) (e : Fin 64) :
    s.probeWaits e = true ↔ ∃ n : Fin 4, ∃ q ∈ s.banks[n].lookup, q.entry = e ∧ q.kind = .probe := by
  simp only [State.probeWaits, List.any_eq_true, Bool.and_eq_true, beq_iff_eq]
  constructor
  · rintro ⟨b, hb, q, hq, hprobe⟩
    obtain ⟨i, hi, rfl⟩ := Vector.mem_iff_getElem.1 (Vector.mem_toList_iff.1 hb)
    exact ⟨⟨i, hi⟩, q, hq, hprobe⟩
  · rintro ⟨n, q, hq, hprobe⟩
    exact ⟨s.banks[n], by simp, q, hq, hprobe⟩

/-- The assertion at one entry. -/
theorem State.holdEntry_held {s : State} {e : Fin 64} {en : Entry} (h : s.ProbeHeld e) (he : s.entries[e] = some en) :
    s.holdEntry e = (s.withdrawProbe e).answerAndFree e en (.plain .holdEmergency) := by
  obtain ⟨⟨en', he', hst⟩, hprobe⟩ := h
  rw [he] at he'
  cases he'
  unfold State.holdEntry
  split
  · rename_i hnone
    rw [he] at hnone
    cases hnone
  · rename_i en' he'
    rw [he] at he'
    cases he'
    exact if_pos ⟨hst, (s.probeWaits_iff e).2 hprobe⟩

theorem State.holdEntry_unheld {s : State} {e : Fin 64} (h : ¬ s.ProbeHeld e) : s.holdEntry e = s := by
  unfold State.holdEntry
  split
  · rfl
  · rename_i en he
    exact if_neg fun hc => h ⟨⟨en, he, hc.1⟩, (s.probeWaits_iff e).1 hc.2⟩

/-- A held entry among those seen. -/
def State.Seen (s : State) (l : List (Fin 64)) (e : Fin 64) : Prop := e ∈ l ∧ s.ProbeHeld e

/-- A request that the assertion withdraws once the entries of `l` have been seen. -/
def State.Withdraws (s : State) (l : List (Fin 64)) (q : LookupRequest) : Prop := s.Seen l q.entry ∧ q.kind = .probe

/-- Whether the reply of a seen entry goes to a drop's transaction. -/
def State.Answers (s : State) (l : List (Fin 64)) (k : Fin 4) (d : Fin 28) : Prop :=
  ∃ tr e en, (s.drop k d).transaction = some tr ∧ tr.entry = some e ∧ s.Seen l e ∧ s.entries[e] = some en ∧ en.link = k
    ∧ en.drop = d

open Classical in
/-- The state once the entries of `l` have been seen. -/
structure State.Withdrawn (s : State) (l : List (Fin 64)) (t : State) : Prop where
  frame : ∃ entries banks links, t = { s with entries := entries, banks := banks, links := links }
  entries : ∀ e : Fin 64, t.entries[e] = if s.Seen l e then none else s.entries[e]
  banks : ∀ n : Fin 4, t.banks[n]
    = { s.banks[n] with lookup := s.banks[n].lookup.filter fun q => decide (¬ s.Withdraws l q) }
  links : ∀ k : Fin 4, ∃ drops, t.links[k] = { s.links[k] with drops := drops }
  drops : ∀ (k : Fin 4) (d : Fin 28),
    t.drop k d = if s.Answers l k d then (s.drop k d).withReply (.plain .holdEmergency) else s.drop k d

theorem State.post_links_settings (s : State) (e : Fin 64) (en : Entry) (r : Reply) (k : Fin 4) :
    ∃ drops, (s.post e en r).links[k] = { s.links[k] with drops := drops } := by
  unfold State.post
  split
  · split
    · simp only [State.setDrop, Vector.getElem_set_fin]
      split
      · rename_i hk
        subst hk
        exact ⟨_, rfl⟩
      · exact ⟨_, rfl⟩
    · exact ⟨_, rfl⟩
  · exact ⟨_, rfl⟩

theorem State.post_frame (s : State) (e : Fin 64) (en : Entry) (r : Reply) :
    ∃ links, s.post e en r = { s with links := links } := by
  unfold State.post
  split
  · split
    · exact ⟨_, rfl⟩
    · exact ⟨_, rfl⟩
  · exact ⟨_, rfl⟩

/-- The drop records after a reply is posted (R120). -/
theorem State.post_drop_reached {s : State} {e : Fin 64} {en : Entry} {tr : Transaction}
    (h : (s.drop en.link en.drop).transaction = some tr) (he : tr.entry = some e) (r : Reply) :
    (s.post e en r).drop en.link en.drop = (s.drop en.link en.drop).withReply r := by
  simp [State.post, h, he]

theorem State.post_drop_other {s : State} {e : Fin 64} {en : Entry} {k : Fin 4} {d : Fin 28}
    (h : ∀ tr, en.link = k → en.drop = d → (s.drop k d).transaction = some tr → tr.entry ≠ some e) (r : Reply) :
    (s.post e en r).drop k d = s.drop k d := by
  unfold State.post
  split
  · rename_i tr htr
    split
    · rename_i he
      refine State.drop_setDrop_other s _ fun heq => ?_
      obtain ⟨rfl, rfl⟩ := Prod.mk.inj heq
      exact h tr rfl rfl htr he
    · rfl
  · rfl

section Withdrawn
variable {s t : State} {l : List (Fin 64)} {e : Fin 64}

theorem State.not_seen_nil (e : Fin 64) : ¬ s.Seen [] e := fun h => absurd h.1 List.not_mem_nil

theorem State.withdrawn_nil (s : State) : s.Withdrawn [] s := by
  classical
  refine ⟨⟨_, _, _, rfl⟩, fun e => (if_neg (State.not_seen_nil e)).symm, fun n => ?_, fun k => ⟨_, rfl⟩, fun k d => (if_neg ?_).symm⟩
  · rw [List.filter_eq_self.2]
    intro q _
    rw [decide_eq_true_eq]
    exact fun hw => State.not_seen_nil _ hw.1
  · rintro ⟨tr, e, en, -, -, hseen, -⟩
    exact State.not_seen_nil e hseen

/-- An entry not yet seen is held as it was. -/
theorem State.Withdrawn.probeHeld_iff (h : s.Withdrawn l t) (he : e ∉ l) : t.ProbeHeld e ↔ s.ProbeHeld e := by
  unfold State.ProbeHeld
  rw [h.entries e, if_neg fun hc => he hc.1]
  refine and_congr_right fun _ => exists_congr fun n => exists_congr fun q => ?_
  rw [h.banks n]
  simp only [List.mem_filter, decide_eq_true_eq, and_assoc]
  refine and_congr_right fun _ => ⟨fun hq => hq.2, fun hq => ⟨fun hw => he (hq.1 ▸ hw.1.1), hq⟩⟩

/-- One more entry seen that is not held. -/
theorem State.Withdrawn.skip (h : s.Withdrawn l t) (hheld : ¬ s.ProbeHeld e) : s.Withdrawn (l ++ [e]) t := by
  have hseen : s.Seen (l ++ [e]) = s.Seen l := funext fun e' => propext <| and_congr_left fun he' => by
    have hne : e' ≠ e := fun heq => hheld (heq ▸ he')
    simp [hne]
  have hwithdraws : s.Withdraws (l ++ [e]) = s.Withdraws l := by unfold State.Withdraws; rw [hseen]
  have hanswers : s.Answers (l ++ [e]) = s.Answers l := by unfold State.Answers; rw [hseen]
  refine ⟨h.frame, fun e' => ?_, fun n => ?_, h.links, fun k d => ?_⟩
  · rw [h.entries e', hseen]
  · rw [h.banks n, hwithdraws]
  · rw [h.drops k d, hanswers]

/-- The drop records once a held entry's reply is posted. -/
theorem State.Withdrawn.drop_hold (h : s.Withdrawn l t) (he : e ∉ l) {en : Entry} (hheld : s.ProbeHeld e)
    (hen : s.entries[e] = some en) (k : Fin 4) (d : Fin 28) :
    ((s.Answers (l ++ [e]) k d) → ((t.withdrawProbe e).post e en (.plain .holdEmergency)).drop k d
        = (s.drop k d).withReply (.plain .holdEmergency))
      ∧ (¬ s.Answers (l ++ [e]) k d → ((t.withdrawProbe e).post e en (.plain .holdEmergency)).drop k d = s.drop k d) := by
  have hdrop : (t.withdrawProbe e).drop k d = t.drop k d := rfl
  by_cases hold : s.Answers l k d
  · obtain ⟨tr, e0, en0, htr, hentry, hseen, hrest⟩ := hold
    have hreplied : t.drop k d = (s.drop k d).withReply (.plain .holdEmergency) := by
      rw [h.drops k d, if_pos ⟨tr, e0, en0, htr, hentry, hseen, hrest⟩]
    have hother : ((t.withdrawProbe e).post e en (.plain .holdEmergency)).drop k d = t.drop k d := by
      refine State.post_drop_other (fun tr' _ _ htr' he' => ?_) _
      rw [hdrop, hreplied] at htr'
      simp only [Drop.withReply, htr, Option.map_some, Option.some.injEq] at htr'
      subst htr'
      rw [hentry] at he'
      cases he'
      exact he hseen.1
    refine ⟨fun _ => hother.trans hreplied, fun hno => absurd ⟨tr, e0, en0, htr, hentry, ?_, hrest⟩ hno⟩
    exact ⟨List.mem_append_left _ hseen.1, hseen.2⟩
  · have hsame : t.drop k d = s.drop k d := by rw [h.drops k d, if_neg hold]
    refine ⟨fun ⟨tr, e0, en0, htr, hentry, hseen, hen0, hk, hd⟩ => ?_, fun hno => ?_⟩
    · rcases List.mem_append.1 hseen.1 with hin | hin
      · exact absurd ⟨tr, e0, en0, htr, hentry, ⟨hin, hseen.2⟩, hen0, hk, hd⟩ hold
      · cases List.mem_singleton.1 hin
        rw [hen] at hen0
        cases hen0
        subst hk hd
        rw [← hsame, ← hdrop]
        exact State.post_drop_reached (by rw [hdrop, hsame]; exact htr) hentry _
    · rw [← hsame, ← hdrop]
      refine State.post_drop_other (fun tr hk hd htr hentry => hno ?_) _
      rw [hdrop, hsame] at htr
      exact ⟨tr, e, en, htr, hentry, ⟨by simp, hheld⟩, hen, hk, hd⟩

/-- One more entry seen that is held: its probe is withdrawn, its reply posted, the entry freed. -/
theorem State.Withdrawn.hold (h : s.Withdrawn l t) (he : e ∉ l) {en : Entry} (hheld : s.ProbeHeld e)
    (hen : s.entries[e] = some en) :
    s.Withdrawn (l ++ [e]) ((t.withdrawProbe e).answerAndFree e en (.plain .holdEmergency)) := by
  have hseen : ∀ e', s.Seen (l ++ [e]) e' ↔ e = e' ∨ s.Seen l e' := fun e' => by
    unfold State.Seen
    rw [List.mem_append, List.mem_singleton]
    constructor
    · rintro ⟨hin | hin, hh⟩
      · exact .inr ⟨hin, hh⟩
      · exact .inl hin.symm
    · rintro (rfl | ⟨hin, hh⟩)
      · exact ⟨.inr rfl, hheld⟩
      · exact ⟨.inl hin, hh⟩
  rw [State.answerAndFree_eq]
  refine ⟨?_, fun e' => ?_, fun n => ?_, fun k => ?_, fun k d => ?_⟩
  · obtain ⟨links, hlinks⟩ := State.post_frame (t.withdrawProbe e) e en (.plain .holdEmergency)
    obtain ⟨entries, banks, links', rfl⟩ := h.frame
    rw [hlinks]
    exact ⟨_, _, _, rfl⟩
  · simp only [Vector.getElem_set_fin]
    by_cases hee : e = e'
    · rw [if_pos hee, if_pos ((hseen e').2 (.inl hee))]
    · rw [if_neg hee]
      refine (h.entries e').trans ?_
      by_cases hs : s.Seen l e'
      · rw [if_pos hs, if_pos ((hseen e').2 (.inr hs))]
      · rw [if_neg hs, if_neg fun hn => ((hseen e').1 hn).elim hee hs]
  · have hbanks : ((t.withdrawProbe e).post e en (.plain .holdEmergency)).banks[n]
        = { t.banks[n] with lookup := t.banks[n].lookup.filter fun q => !(q.entry == e && q.kind == .probe) } := by
      rw [State.post_banks]
      simp [State.withdrawProbe]
    refine hbanks.trans ?_
    rw [h.banks n]
    dsimp only
    rw [List.filter_filter]
    congr 1
    refine List.filter_congr fun q _ => ?_
    rw [Bool.eq_iff_iff]
    simp only [Bool.and_eq_true, Bool.not_eq_true', Bool.and_eq_false_iff, beq_eq_false_iff_ne, decide_eq_true_eq]
    simp only [State.Withdraws, hseen]
    tauto
  · obtain ⟨drops, hdrops⟩ := State.post_links_settings (t.withdrawProbe e) e en (.plain .holdEmergency) k
    obtain ⟨drops', hdrops'⟩ := h.links k
    refine ⟨drops, hdrops.trans ?_⟩
    change ({ t.links[k] with drops := drops } : Link) = _
    rw [hdrops']
  · obtain ⟨hyes, hno⟩ := h.drop_hold he hheld hen k d
    change ((t.withdrawProbe e).post e en (.plain .holdEmergency)).drop k d = _
    by_cases ha : s.Answers (l ++ [e]) k d
    · rw [if_pos ha, hyes ha]
    · rw [if_neg ha, hno ha]

theorem State.withdrawn_foldl (hnodup : l.Nodup) : s.Withdrawn l (l.foldl State.holdEntry s) := by
  induction l using List.reverseRecOn with
  | nil => exact State.withdrawn_nil s
  | append_singleton l e ih =>
    obtain ⟨hl, -, hdisjoint⟩ := List.nodup_append.1 hnodup
    have he : e ∉ l := fun hin => hdisjoint e hin e (List.mem_singleton_self e) rfl
    have hl := ih hl
    rw [List.foldl_append, List.foldl_cons, List.foldl_nil]
    by_cases hheld : s.ProbeHeld e
    · obtain ⟨⟨en, hen, hst⟩, hprobe⟩ := hheld
      have hent : (l.foldl State.holdEntry s).entries[e] = some en := by
        rw [hl.entries e, if_neg fun hc => he hc.1, hen]
      rw [State.holdEntry_held ((hl.probeHeld_iff he).2 ⟨⟨en, hen, hst⟩, hprobe⟩) hent]
      exact hl.hold he ⟨⟨en, hen, hst⟩, hprobe⟩ hen
    · rw [State.holdEntry_unheld fun hh => hheld ((hl.probeHeld_iff he).1 hh)]
      exact hl.skip hheld

end Withdrawn

theorem execEmgAssert_eq {s : State} (hreset : s.inReset = false) (hemg : s.emg = false) :
    exec .emgAssert s = .next ((List.finRange 64).foldl State.holdEntry { s with emg := true }) := by
  change execEmgAssert s = _
  unfold execEmgAssert
  rw [if_neg (by simp [hemg]), if_neg (by simp [hreset])]

/-- Settles O6: the assertion sees the 64 entries in turn, and each held one is withdrawn, answered and freed. -/
theorem emergencyWithdrawsWaitingProbes : Obligations.EmergencyWithdrawsWaitingProbes := by
  classical
  intro s
  refine ⟨rfl, fun hemg => congrArg _ (if_pos hemg), fun hreset hemg =>
    ⟨(List.finRange 64).foldl State.holdEntry { s with emg := true }, ?_, ?_⟩⟩
  · exact execEmgAssert_eq hreset hemg
  · have h := State.withdrawn_foldl (s := { s with emg := true }) (List.nodup_finRange 64)
    generalize (List.finRange 64).foldl State.holdEntry { s with emg := true } = t at h ⊢
    obtain ⟨hframe, hentries, hbanks, hlinks, hdrops⟩ := h
    intro held
    have hseen : ∀ e, ({ s with emg := true } : State).Seen (List.finRange 64) e ↔ held e := fun e =>
      and_iff_right (List.mem_finRange e)
    refine ⟨?_, fun e he => ?_, fun e he => ?_, fun n => ⟨?_, ?_, fun q => ⟨fun hq => ?_, fun hq => ?_⟩⟩,
      fun k => ?_, fun k d => ⟨fun tr e en htr hentry he hen hk hd => ?_, fun hno => ?_⟩⟩
    · obtain ⟨entries, banks, links, rfl⟩ := hframe
      rfl
    · rw [hentries e, if_pos ((hseen e).2 he)]
    · rw [hentries e, if_neg fun hs => he ((hseen e).1 hs)]
    · rw [hbanks n]
    · rw [hbanks n]; exact List.filter_sublist
    · rw [hbanks n]
      simp only [List.mem_filter, decide_eq_true_eq, not_and, not_not]
      exact fun _ => ⟨(hseen _).2 hq.1, hq.2⟩
    · rw [hbanks n]
      refine List.count_filter ?_
      rw [decide_eq_true_eq]
      exact fun hw => hq ⟨(hseen _).1 hw.1, hw.2⟩
    · obtain ⟨drops, hk⟩ := hlinks k
      rw [hk]
    · rw [hdrops k d, if_pos ⟨tr, e, en, htr, hentry, (hseen e).2 he, hen, hk, hd⟩]
      change (s.drop k d).withReply _ = _
      rw [Drop.withReply, htr]
      rfl
    · rw [hdrops k d, if_neg]
      · rfl
      · rintro ⟨tr, e, en, htr, hentry, hs, hen, hk, hd⟩
        exact hno tr e en htr hentry hen ⟨(hseen e).1 hs, hk, hd⟩

end Sys2Proof.Machine

/-! ## Frames of the two links (R185 to R190) -/

namespace Sys2Proof.Machine

/-- The sum of a list's bytes. -/
def byteTotal (l : List Byte) : Nat := (l.map BitVec.toNat).sum

theorem byteTotal_append_singleton (l : List Byte) (b : Byte) : byteTotal (l ++ [b]) = byteTotal l + b.toNat := by
  simp [byteTotal]

/-- The two running sums, closed (R185). -/
theorem foldl_sumStep (l : List Byte) :
    l.foldl sumStep (0, 0) = (byteTotal l % 255, (l.inits.map byteTotal).sum % 255) := by
  induction l using List.reverseRecOn with
  | nil => rfl
  | append_singleton l b ih =>
    have hinits : ((l ++ [b]).inits.map byteTotal).sum = (l.inits.map byteTotal).sum + byteTotal (l ++ [b]) := by
      simp [List.inits_append]
    rw [List.foldl_append, ih, List.foldl_cons, List.foldl_nil, hinits, byteTotal_append_singleton]
    simp only [sumStep, Prod.mk.injEq]
    omega

theorem frame_eq (covered : List Byte) :
    frame covered = 126 :: covered
      ++ [byte1 (byteTotal covered % 255), byte1 ((covered.inits.map byteTotal).sum % 255)] := by
  simp only [frame, linkCheck, foldl_sumStep, Config.startByte]

/-! ### Dispatch frames -/

theorem dispatchContent_assign (tag car : Byte) :
    dispatchContent 32 [tag, car] = if h : car.toNat < 16 then some (.assign tag ⟨car.toNat, h⟩) else none := rfl

theorem dispatchContent_decline (tag reason : Byte) :
    dispatchContent 33 [tag, reason] = (declineReasonOfCode reason.toNat).map fun r => .decline tag r := rfl

theorem dispatchContent_groupState (group state : Byte) :
    dispatchContent 34 [group, state]
      = if h : group.toNat < 12 then (groupStateOfCode state.toNat).map fun g => .groupState ⟨group.toNat, h⟩ g
        else none := rfl

theorem encodeDispatch_assign (tag : Byte) (car : Fin 16) :
    encodeDispatch (.assign tag car) = some (frame [32, 2, tag, byte1 car]) := rfl

theorem encodeDispatch_decline (tag : Byte) (reason : DeclineReason) :
    encodeDispatch (.decline tag reason) = some (frame [33, 2, tag, byte1 (declineReasonCode reason)]) := rfl

theorem encodeDispatch_groupState (group : Fin 12) (state : GroupState) :
    encodeDispatch (.groupState group state) = some (frame [34, 2, byte1 group, byte1 (groupStateCode state)]) := rfl

/-- No other type is a type of dispatch frame. The matcher is opened by name: its splitter, over numbers as literals, is
too costly to check. -/
theorem dispatchContent_other {type : Byte} (fields : List Byte) (h32 : type.toNat ≠ 32) (h33 : type.toNat ≠ 33)
    (h34 : type.toNat ≠ 34) (h35 : type.toNat ≠ 35) : dispatchContent type fields = none := by
  delta dispatchContent dispatchContent.match_1
  simp only [dif_neg h32, dif_neg h33, dif_neg h34, dif_neg h35]

/-- The types of the dispatch frames that are read. -/
theorem type_of_dispatchContent {type : Byte} {fields : List Byte} {i : Instr} (h : dispatchContent type fields = some i) :
    type = 32 ∨ type = 33 ∨ type = 34 ∨ type = 35 := by
  by_contra hother
  simp only [not_or, BitVec.toNat_eq] at hother
  obtain ⟨h32, h33, h34, h35⟩ := hother
  rw [dispatchContent_other fields h32 h33 h34 h35] at h
  cases h

/-- The bytes of type and fields that a dispatch command has. -/
theorem encodeDispatch_of_content {type : Byte} {fields : List Byte} {i : Instr} (h : dispatchContent type fields = some i) :
    encodeDispatch i = some (frame (type :: byte1 fields.length :: fields)) := by
  obtain rfl | rfl | rfl | rfl := type_of_dispatchContent h
  · match fields, h with
    | [tag, car], h =>
      obtain ⟨hcar, heq⟩ := Option.dite_none_right_eq_some.1 ((dispatchContent_assign tag car).symm.trans h)
      obtain rfl := Option.some.inj heq
      rw [encodeDispatch_assign, byte1_of_toNat]
      rfl
    | [], h => cases h
    | [_], h => cases h
    | _ :: _ :: _ :: _, h => cases h
  · match fields, h with
    | [tag, reason], h =>
      obtain ⟨r, hr, rfl⟩ := Option.map_eq_some_iff.1 ((dispatchContent_decline tag reason).symm.trans h)
      rw [encodeDispatch_decline, ← (declineReasonOfCode_iff _ _).1 hr, byte1_of_toNat]
      rfl
    | [], h => cases h
    | [_], h => cases h
    | _ :: _ :: _ :: _, h => cases h
  · match fields, h with
    | [group, state], h =>
      obtain ⟨hgroup, heq⟩ := Option.dite_none_right_eq_some.1 ((dispatchContent_groupState group state).symm.trans h)
      obtain ⟨g, hg, rfl⟩ := Option.map_eq_some_iff.1 heq
      rw [encodeDispatch_groupState, ← (groupStateOfCode_iff _ _).1 hg, byte1_of_toNat, byte1_of_toNat]
      rfl
    | [], h => cases h
    | [_], h => cases h
    | _ :: _ :: _ :: _, h => cases h
  · match fields, h with
    | [], h =>
      obtain rfl := Option.some.inj h
      rfl
    | _ :: _, h => cases h

theorem readDispatch_of_encodeDispatch {i : Instr} {bytes : List Byte} (h : encodeDispatch i = some bytes) :
    readDispatch bytes = some i := by
  refine (readDispatch_iff bytes i).2 ?_
  cases i with
  | assign tag car =>
    obtain rfl := Option.some.inj h
    have hcar : (byte1 car.val).toNat = car.val := byte1_toNat (by omega)
    refine ⟨32, [tag, byte1 car], Nat.le_add_left 2 5, rfl, ?_⟩
    simp only [dispatchContent_assign, hcar, Fin.is_lt, dite_true]
  | decline tag reason =>
    obtain rfl := Option.some.inj h
    refine ⟨33, [tag, byte1 (declineReasonCode reason)], Nat.le_add_left 2 5, rfl, ?_⟩
    rw [dispatchContent_decline]
    cases reason <;> rfl
  | groupState group state =>
    obtain rfl := Option.some.inj h
    have hgroup : (byte1 group.val).toNat = group.val := byte1_toNat (by omega)
    have hstate : groupStateOfCode (byte1 (groupStateCode state)).toNat = some state := by cases state <;> rfl
    refine ⟨34, [byte1 group, byte1 (groupStateCode state)], Nat.le_add_left 2 5, rfl, ?_⟩
    simp only [dispatchContent_groupState, hgroup, hstate, Fin.is_lt, dite_true, Option.map_some]
  | linkAnswer =>
    obtain rfl := Option.some.inj h
    exact ⟨35, [], Nat.zero_le 7, rfl, rfl⟩
  | _ => cases h

theorem encodeDispatch_iff (i : Instr) (bytes : List Byte) :
    encodeDispatch i = some bytes ↔ readDispatch bytes = some i := by
  refine ⟨readDispatch_of_encodeDispatch, fun h => ?_⟩
  obtain ⟨type, fields, -, rfl, hcontent⟩ := (readDispatch_iff bytes i).1 h
  exact encodeDispatch_of_content hcontent

/-! ### Answers of the drops -/

/-- An answer's frame is read as its content, whatever follows it (R188). -/
theorem readAnswer_frame (d : Fin 28) (type : Byte) (fields extra : List Byte) (h : fields.length ≤ 9) :
    readAnswer d (frame (byte1 (d.val + 1) :: type :: byte1 fields.length :: fields) ++ extra)
      = answerContent type fields := by
  have hlen : (byte1 fields.length).toNat = fields.length := byte1_toNat (by omega)
  have haddress : (byte1 (d.val + 1)).toNat = d.val + 1 := byte1_toNat (by omega)
  simp only [frame, List.cons_append, List.append_assoc, readAnswer, hlen, haddress]
  rw [if_pos]
  · simp
  · refine ⟨trivial, h, by simp [linkCheck], ?_, rfl⟩
    simp [linkCheck]

/-- Bytes read as an answer begin with the drop's frame (R188). -/
theorem frame_of_readAnswer {d : Fin 28} {bytes : List Byte} {a : Answer} (h : readAnswer d bytes = some a) :
    ∃ covered extra, bytes = frame covered ++ extra ∧ covered.head? = some (byte1 (d.val + 1)) := by
  unfold readAnswer at h
  split at h
  · rename_i start addr type len rest
    split_ifs at h with hc
    obtain ⟨hstart, -, hlength, hcheck, haddress⟩ := hc
    refine ⟨addr :: type :: len :: rest.take len.toNat, rest.drop (len.toNat + 2), ?_, ?_⟩
    · rw [frame, ← hcheck, hstart]
      simp only [List.cons_append, List.append_assoc, List.cons.injEq, true_and]
      rw [← List.drop_drop, List.take_append_drop, List.take_append_drop]
    · rw [List.head?_cons, Option.some.injEq, eq_byte1_iff (by omega)]
      exact haddress
  · cases h

/-- The fields of a REQUEST frame are read as they are written. -/
theorem answerContent_request (flags number floor : Byte) (kind : Kind) {site card : Nat} (hsite : site < 65536)
    (hcard : card < 16777216) :
    answerContent 3 ([flags, number, byte1 kind.code] ++ be 2 site ++ be 3 card ++ [floor])
      = some
          { tamper := flags.getLsbD 0
            request := some
              { number := number, kind := kind, key := { site := site, card := card },
                requested := if kind = .destination then some floor.toNat else none, assist := flags.getLsbD 1 } } := by
  obtain ⟨s1, s0, hs⟩ := List.length_eq_two.1 (be_length 2 site)
  obtain ⟨c2, c1, c0, hc⟩ := List.length_eq_three.1 (be_length 3 card)
  have hkind : Kind.ofCode (byte1 kind.code).toNat = some kind := by cases kind <;> rfl
  have hnums : num [s1, s0] = site := by rw [← hs]; exact num_be hsite
  have hnumc : num [c2, c1, c0] = card := by rw [← hc]; exact num_be hcard
  rw [hs, hc]
  simp only [List.cons_append, List.nil_append, answerContent]
  simp [hkind, hnums, hnumc]

/-- Settles O11: frames are read by their length byte and check, and written by the tables. -/
theorem linkFramesAreReadBack : Obligations.LinkFramesAreReadBack := by
  refine ⟨encodeDispatch_iff, fun d flags extra => ?_, fun d flags number floor kind site card extra hsite hcard => ?_,
    fun d bytes a h => frame_of_readAnswer h, fun covered => frame_eq covered, fun d number => ⟨rfl, fun c => rfl, fun g car target cont => ?_, fun c => rfl⟩,
    fun owner o => ?_, fun n service policy => ?_, rfl⟩
  · exact readAnswer_frame d 2 [flags] extra (by simp)
  · have hlen : ([flags, number, byte1 kind.code] ++ be 2 site ++ be 3 card ++ [floor]).length = 9 := by simp
    have h := readAnswer_frame d 3 ([flags, number, byte1 kind.code] ++ be 2 site ++ be 3 card ++ [floor]) extra (by omega)
    rw [hlen, answerContent_request flags number floor kind hsite hcard] at h
    exact h
  · cases cont <;> rfl
  · cases ha : o.assist <;> cases hk : o.kind <;> simp [dispatchFrame, ha, hk, yesNo, OfferKind.code, byte1]
  · cases service <;> cases policy <;> rfl

end Sys2Proof.Machine

/-! ## Placement and search (R2, R3) -/

namespace Sys2Proof.Machine

theorem List.find?_ways {p : Way → Bool} {w : Way} :
    ways.find? p = some w ↔ p w = true ∧ ∀ w' < w, ¬ p w' = true := by
  have h : ways = List.finRange 4 := by decide
  rw [h, List.find?_eq_some_iff_getElem]
  constructor
  · rintro ⟨hp, i, hi, rfl, hbefore⟩
    refine ⟨by simpa using hp, fun w' hw' => ?_⟩
    have hlt : w'.val < i := by simpa [Fin.lt_def] using hw'
    simpa using hbefore w'.val hlt
  · rintro ⟨hp, hbefore⟩
    refine ⟨hp, w.val, by simp, by simp, fun j hj => ?_⟩
    have := hbefore ⟨j, by omega⟩ (by simpa [Fin.lt_def] using hj)
    simpa using this

theorem Store.search_eq (st : Store) (b : Bucket) (k : Key) :
    st.search b k = (ways.find? fun w => (st.slot b w).any fun r => r.key = k).bind
      fun w => (st.slot b w).map fun r => (w, r) := by
  unfold Store.search
  generalize ways = l
  induction l with
  | nil => rfl
  | cons w l ih =>
    rw [List.findSome?_cons, List.find?_cons]
    cases hs : st.slot b w with
    | none => simpa [hs] using ih
    | some r =>
      by_cases hk : r.key = k
      · simp [hs, hk]
      · simpa [hs, hk] using ih

/-- Settles O15: the ways are searched ascending. -/
theorem placementAndSearch : Obligations.PlacementAndSearch := by
  refine ⟨fun k => ⟨rfl, rfl, rfl, ?_⟩, fun st b k w r => ?_, fun st b w => ?_⟩
  · simp only [bankOf, Key.alternate]
    omega
  · rw [Store.search_eq, Option.bind_eq_some_iff]
    constructor
    · rintro ⟨w0, hfind, hmap⟩
      obtain ⟨r0, hr0, heq⟩ := Option.map_eq_some_iff.1 hmap
      cases heq
      obtain ⟨hp, hbefore⟩ := List.find?_ways.1 hfind
      exact ⟨hr0, by simpa [hr0] using hp, fun w' r' hw' hr' => by simpa [hr'] using hbefore w' hw'⟩
    · rintro ⟨hr, hk, hbefore⟩
      refine ⟨w, List.find?_ways.2 ⟨by simp [hr, hk], fun w' hw' => ?_⟩, by simp [hr]⟩
      cases hr' : st.slot b w' with
      | none => simp
      | some r' => simpa using hbefore w' r' hw' hr'
  · rw [Store.freeWay, List.find?_ways]
    simp only [Option.isNone_iff_eq_none]

end Sys2Proof.Machine

/-! ## SWEEP NOW and the expiry of the interval timer (R161 to R163) -/

namespace Sys2Proof.Machine

theorem State.startPass_eq (s : State) : s.startPass = s.passStarted := rfl

/-- SWEEP NOW by the first condition that holds (R162). -/
def State.sweptNow (s : State) : State :=
  if s.clock.state ≠ .running then s.ended .wrongState []
  else if s.sweeper.state = .passing then s.ended .busy []
  else s.passStarted.ended .ok []

theorem exec_sweepNow (fell : Fall) (args : List Byte) (s : State) :
    exec (.sweepNow fell args) s = s.plainCommand fell args State.sweptNow := by
  change execSweepNow fell args s = _
  simp only [execSweepNow, State.finishPlain_eq, State.startPass_eq]
  rfl

/-- Settles O27, by the conditions of the two rows in their order. -/
theorem passesStartByCommandAndTimer : Obligations.PassesStartByCommandAndTimer := by
  refine ⟨endsAtOnce_of_plainCommand exec_sweepNow, fun s hreset => ⟨fun htimer => ?_, fun m htimer => ?_⟩⟩
  · change execSweepIntervalExpiry s = _
    rw [execSweepIntervalExpiry, if_pos (.inr (by rw [htimer]; exact nofun))]
  · intro t
    change execSweepIntervalExpiry s = _
    rw [execSweepIntervalExpiry]
    by_cases hm : m = 0
    · subst hm
      rw [if_neg (by rw [htimer, hreset]; simp), if_neg (not_not_intro rfl)]
      rfl
    · rw [if_pos (.inr (by rw [htimer]; simpa using hm)), if_pos hm]

end Sys2Proof.Machine

/-! ## SET CLOCK and SET TICK SOURCE (R43, R44) -/

namespace Sys2Proof.Machine

theorem num_pair_of_be {n : Nat} (h : n ≤ 65535) : num [BitVec.ofNat 8 (n / 256), BitVec.ofNat 8 n] = n := by
  rw [← be_two]
  exact num_be (Nat.lt_succ_of_le h)

/-- What SET CLOCK reads: four values in their ranges (R43). -/
def readClock : List Byte → Option Args.ClockValues
  | [d1, d0, w, m1, m0, c] =>
    if w.toNat ≤ 6 ∧ num [m1, m0] ≤ 1439 ∧ c.toNat ≤ 59 then some ⟨num [d1, d0], w.toNat, num [m1, m0], c.toNat⟩ else none
  | _ => none

theorem readClock_iff (args : List Byte) (v : Args.ClockValues) :
    readClock args = some v
      ↔ (v.day ≤ 65535 ∧ v.weekday ≤ 6 ∧ v.minute ≤ 1439 ∧ v.second ≤ 59) ∧ args = Args.clock v := by
  match args with
  | [d1, d0, w, m1, m0, c] =>
    rw [readClock, Option.ite_none_right_eq_some]
    constructor
    · rintro ⟨⟨hw, hm, hc⟩, heq⟩
      obtain rfl := Option.some.inj heq
      refine ⟨⟨Nat.le_of_lt_succ (num_pair_lt d1 d0), hw, hm, hc⟩, ?_⟩
      simp only [Args.clock, be_two_num, byte1_of_toNat, List.cons_append, List.nil_append]
    · rintro ⟨⟨hd, hw, hm, hc⟩, heq⟩
      obtain ⟨day, weekday, minute, second⟩ := v
      simp only [Args.clock, be_two, List.cons_append, List.nil_append, List.cons.injEq, and_true] at heq
      obtain ⟨rfl, rfl, rfl, rfl, rfl, rfl⟩ := heq
      dsimp only at hd hw hm hc
      rw [num_pair_of_be hd, num_pair_of_be (by omega), byte1_toNat (by omega), byte1_toNat (by omega)]
      exact ⟨⟨hw, hm, hc⟩, rfl⟩
  | [] | [_] | [_, _] | [_, _, _] | [_, _, _, _] | [_, _, _, _, _] | _ :: _ :: _ :: _ :: _ :: _ :: _ :: _ =>
    simp [readClock, Args.clock, be_two]

/-- The effect of SET CLOCK (R43). -/
def State.clockSet (s : State) (v : Args.ClockValues) : State :=
  { s with
    clock := { s.clock with
      state := .running, day := v.day, weekday := v.weekday, minute := v.minute, second := v.second,
      divider := 0 } }.ended .ok []

theorem exec_setClock (fell : Fall) (args : List Byte) (s : State) :
    exec (.setClock fell args) s = s.command fell args fun t => (readClock args).elim (t.ended .badArg []) t.clockSet := by
  change execSetClock fell args s = _
  unfold execSetClock
  congr 1
  funext t
  simp only [State.finishPlain_eq]
  match args with
  | [d1, d0, w, m1, m0, c] =>
    rw [readClock]
    by_cases h : w.toNat ≤ 6 ∧ num [m1, m0] ≤ 1439 ∧ c.toNat ≤ 59
    · rw [if_pos h, if_pos ⟨rfl, h⟩]
      rfl
    · rw [if_neg h, if_neg fun hc => h hc.2]
      rfl
  | [] | [_] | [_, _] | [_, _, _] | [_, _, _, _] | [_, _, _, _, _] | _ :: _ :: _ :: _ :: _ :: _ :: _ :: _ =>
    rw [if_neg (by simp)]
    rfl

/-- What SET TICK SOURCE reads. -/
def readTickSource : List Byte → Option TickSource
  | [b] => TickSource.ofCode b.toNat
  | _ => none

theorem readTickSource_iff (args : List Byte) (x : TickSource) : readTickSource args = some x ↔ args = [byte1 x.code] := by
  match args with
  | [b] =>
    rw [readTickSource, TickSource.ofCode_iff, List.singleton_inj, eq_byte1_iff (by cases x <;> decide)]
  | [] | _ :: _ :: _ => simp [readTickSource]

/-- The effect of SET TICK SOURCE (R44). -/
def State.tickSourceSet (s : State) (x : TickSource) : State :=
  { s with
    clock := { s.clock with
      source := x
      divider := if x = TickSource.internal ∧ s.clock.source ≠ TickSource.internal then 0 else s.clock.divider } }.ended .ok []

theorem exec_setTickSource (fell : Fall) (args : List Byte) (s : State) :
    exec (.setTickSource fell args) s
      = s.command fell args fun t => (readTickSource args).elim (t.ended .badArg []) t.tickSourceSet := by
  change execSetTickSource fell args s = _
  unfold execSetTickSource
  congr 1
  funext t
  simp only [State.finishPlain_eq]
  match args with
  | [] | _ :: _ :: _ => rfl
  | [b] =>
    dsimp only [readTickSource]
    cases TickSource.ofCode b.toNat with
    | none => rfl
    | some x =>
      cases x with
      | external => simp [State.tickSourceSet]
      | internal =>
        by_cases h : t.clock.source = .internal
        · have hkept : { t.clock with source := TickSource.internal } = t.clock := by rw [← h]
          simp [State.tickSourceSet, h, hkept]
        · simp [State.tickSourceSet, h]

/-- Settles O28: each command's reader reads exactly the frames its values write, and its body is the effect stated. -/
theorem clockCommands : Obligations.ClockCommands := by
  constructor
  · exact endsAtOnce_of_read_iff readClock readClock_iff exec_setClock
  · refine endsAtOnce_of_read_iff readTickSource (fun args x => ?_) exec_setTickSource
    rw [readTickSource_iff, true_and]

end Sys2Proof.Machine

/-! ## PUT HOLIDAYS, PUT PROFILE and GET PROFILE (R47, R51, R52) -/

namespace Sys2Proof.Machine

@[simp] theorem mem_insertAscending {a n : Nat} {l : List Nat} : a ∈ insertAscending n l ↔ a = n ∨ a ∈ l := by
  induction l with
  | nil => simp [insertAscending]
  | cons b l ih =>
    rw [insertAscending]
    split_ifs with hlt heq
    · exact List.mem_cons
    · subst heq; simp
    · rw [List.mem_cons, ih, List.mem_cons]; tauto

theorem insertAscending_sorted {n : Nat} {l : List Nat} (h : l.Pairwise (· < ·)) : (insertAscending n l).Pairwise (· < ·) := by
  induction l with
  | nil => simp [insertAscending]
  | cons b l ih =>
    obtain ⟨hb, hl⟩ := List.pairwise_cons.1 h
    rw [insertAscending]
    split_ifs with hlt heq
    · refine List.pairwise_cons.2 ⟨fun a ha => ?_, h⟩
      rcases List.mem_cons.1 ha with rfl | ha
      · exact hlt
      · exact hlt.trans (hb a ha)
    · exact h
    · refine List.pairwise_cons.2 ⟨fun a ha => ?_, ih hl⟩
      rcases mem_insertAscending.1 ha with rfl | ha
      · omega
      · exact hb a ha

@[simp] theorem mem_sortMerged {a : Nat} {l : List Nat} : a ∈ sortMerged l ↔ a ∈ l := by
  induction l with
  | nil => rfl
  | cons b l ih => rw [sortMerged, List.foldr_cons, mem_insertAscending, List.mem_cons, ← ih, sortMerged]

theorem sortMerged_sorted (l : List Nat) : (sortMerged l).Pairwise (· < ·) := by
  induction l with
  | nil => exact List.Pairwise.nil
  | cons b l ih => exact insertAscending_sorted ih

/-- The numbers below a bound, each once, ascending (R47). -/
theorem sortMerged_eq {n : Nat} {l : List Nat} (h : ∀ a ∈ l, a < n) :
    sortMerged l = (List.range n).filter fun a => decide (a ∈ l) := by
  refine (sortMerged_sorted l).eq_of_mem_iff (List.pairwise_lt_range.filter _) fun a => ?_
  rw [mem_sortMerged, List.mem_filter, List.mem_range, decide_eq_true_eq]
  exact ⟨fun ha => ⟨h a ha, ha⟩, fun ha => ha.2⟩

theorem sortMerged_length (l : List Nat) : (sortMerged l).length = l.dedup.length :=
  ((List.perm_ext_iff_of_nodup ((sortMerged_sorted l).imp ne_of_lt) l.nodup_dedup).2 fun a => by
    rw [mem_sortMerged, List.mem_dedup]).length_eq

/-- A count byte and that many numbers, which pass a test. -/
def readCounted (p : List Nat → Bool) : List Byte → Option (List Nat)
  | [] => none
  | n :: rest => (readNumbers n.toNat rest).filter p

theorem readCounted_iff {p : List Nat → Bool} (hp : ∀ l, p l = true → l.length ≤ 255) (args : List Byte) (l : List Nat) :
    readCounted p args = some l ↔ (p l = true ∧ ∀ v ∈ l, v ≤ 65535) ∧ args = Args.numbers l := by
  cases args with
  | nil => simp [readCounted, Args.numbers]
  | cons n rest =>
    rw [readCounted, Option.filter_eq_some_iff, readNumbers_iff, Args.numbers, List.cons.injEq]
    constructor
    · rintro ⟨⟨hlen, hv, hrest⟩, hl⟩
      exact ⟨⟨hl, fun v h => Nat.le_of_lt_succ (hv v h)⟩, by rw [hlen, byte1_of_toNat], hrest⟩
    · rintro ⟨⟨hl, hv⟩, rfl, hrest⟩
      have := hp l hl
      exact ⟨⟨(byte1_toNat (by omega)).symm, fun v h => Nat.lt_succ_of_le (hv v h), hrest⟩, hl⟩

/-- What R47 asks of the day numbers besides their form. -/
def holidaysFit (l : List Nat) : Bool := decide (l.length ≤ 64) && decide (l.dedup.length ≤ 32)

theorem holidaysFit_iff (l : List Nat) : holidaysFit l = true ↔ l.length ≤ 64 ∧ l.dedup.length ≤ 32 := by
  simp only [holidaysFit, Bool.and_eq_true, decide_eq_true_eq]

/-- The effect of PUT HOLIDAYS (R47). -/
def State.holidaysSet (s : State) (l : List Nat) : State :=
  { s with holidays := (List.range 65536).filter fun d => decide (d ∈ l) }.ended .ok [byte1 l.dedup.length]

theorem exec_putHolidays (fell : Fall) (args : List Byte) (s : State) :
    exec (.putHolidays fell args) s
      = s.command fell args fun t => (readCounted holidaysFit args).elim (t.ended .badArg []) t.holidaysSet := by
  change execPutHolidays fell args s = _
  unfold execPutHolidays
  congr 1
  funext t
  simp only [State.finishPlain_eq, State.finish_eq]
  cases args with
  | nil => rfl
  | cons n rest =>
    dsimp only [readCounted]
    cases hread : readNumbers n.toNat rest with
    | none => rfl
    | some l =>
      obtain ⟨hlen, hdays, -⟩ := (readNumbers_iff _ _ _).1 hread
      have hset : t.holidaysSet l = { t with holidays := sortMerged l }.ended .ok [byte1 (sortMerged l).length] := by
        rw [State.holidaysSet, sortMerged_length, sortMerged_eq hdays]
      rw [← hlen, Option.filter_some]
      by_cases h : l.length ≤ 64 ∧ (sortMerged l).length ≤ 32
      · have hfit : holidaysFit l = true := (holidaysFit_iff l).2 (by rwa [← sortMerged_length])
        rw [if_pos hfit, Option.elim_some, hset]
        exact if_pos h
      · have hfit : ¬ holidaysFit l = true := fun hl => h (by rw [sortMerged_length]; exact (holidaysFit_iff l).1 hl)
        rw [if_neg hfit, Option.elim_none]
        exact if_neg h

/-- Reading a profile is reading its number, its floors in any order, and its windows (R51). -/
theorem readProfile_iff (args : List Byte) (x : Fin 256 × Profile) :
    readProfile args = some x
      ↔ ∃ v : Args.ProfileValues,
          (v.floors.length ≤ 160 ∧ (∀ f ∈ v.floors, f ≤ 159) ∧ v.windows.length ≤ 6
            ∧ ∀ w ∈ v.windows, w.start ≤ 1439 ∧ 1 ≤ w.stop ∧ w.stop ≤ 2880 ∧ w.start < w.stop)
          ∧ args = Args.profile v ∧ (v.number, { floors := floorSet v.floors, windows := v.windows }) = x := by
  have hvalid (w : Window) : Window.valid w = true ↔ w.start ≤ 1439 ∧ 1 ≤ w.stop ∧ w.stop ≤ 2880 ∧ w.start < w.stop := by
    simp only [Window.valid, Bool.and_eq_true, decide_eq_true_eq, and_assoc]
  constructor
  · intro h
    match args, h with
    | number :: rest, h =>
      unfold readProfile at h
      dsimp only at h
      split at h
      next floors count rest' hfloors =>
        split_ifs at h with hcount
        split at h
        next windows hwindows =>
          split_ifs at h with hchecks
          obtain rfl := Option.some.inj h
          obtain ⟨hflen, -, rfl⟩ := (readFloorList_iff _ _ _).1 hfloors
          obtain ⟨hwlen, -, rfl⟩ := (readWindows_iff _ _ _).1 hwindows
          simp only [Bool.and_eq_true, List.all_eq_true, decide_eq_true_eq] at hchecks
          obtain ⟨hf, hw⟩ := hchecks
          refine ⟨⟨number.toFin, floors, windows⟩, ⟨hflen, fun f h => Nat.le_of_lt_succ (hf f h), by
            rw [hwlen]; exact hcount, fun w h => (hvalid w).1 (hw w h)⟩, ?_, rfl⟩
          have hnumber : byte1 number.toFin.val = number := byte1_of_toNat number
          simp only [Args.profile, hnumber, hwlen, byte1_of_toNat, List.cons_append]
        next => cases h
      next => cases h
  · rintro ⟨⟨number, floors, windows⟩, ⟨hflen, hf, hwlen, hw⟩, rfl, rfl⟩
    dsimp only at hflen hf hwlen hw
    have hfloors : readFloorList (Args.floors floors ++ byte1 windows.length :: windows.flatMap Args.window)
        = some (floors, byte1 windows.length :: windows.flatMap Args.window) :=
      (readFloorList_iff _ _ _).2 ⟨hflen, fun f h => by have := hf f h; omega, rfl⟩
    have hcount : (byte1 windows.length).toNat = windows.length := byte1_toNat (by omega)
    have hwindows : readWindows windows.length (windows.flatMap Args.window) = some windows :=
      (readWindows_iff _ _ _).2 ⟨rfl, fun w h => by have := hw w h; omega, rfl⟩
    have hfall : floors.all (fun f => decide (f < Config.floors)) = true :=
      List.all_eq_true.2 fun f h => decide_eq_true (Nat.lt_succ_of_le (hf f h))
    have hwall : windows.all Window.valid = true := List.all_eq_true.2 fun w h => (hvalid w).2 (hw w h)
    have hnumber : (byte1 number.val).toFin = number := by
      apply Fin.ext
      exact byte1_toNat number.isLt
    simp only [Args.profile, List.cons_append, readProfile, hfloors, hcount, hwindows, hfall, hwall, hnumber, hwlen,
      Bool.and_true, if_true]

/-- The effect of PUT PROFILE (R51). -/
def State.profileSet (s : State) (x : Fin 256 × Profile) : State :=
  { s with profiles := s.profiles.set x.1 x.2 }.ended .ok []

theorem exec_putProfile (fell : Fall) (args : List Byte) (s : State) :
    exec (.putProfile fell args) s
      = s.command fell args fun t => (readProfile args).elim (t.ended .badArg []) t.profileSet := by
  change execPutProfile fell args s = _
  unfold execPutProfile
  congr 1
  funext t
  simp only [State.finishPlain_eq]
  cases readProfile args <;> rfl

/-- What GET PROFILE reads: any byte is a profile's number (R52). -/
def readProfileNumber : List Byte → Option (Fin 256)
  | [b] => some b.toFin
  | _ => none

theorem readProfileNumber_iff (args : List Byte) (n : Fin 256) : readProfileNumber args = some n ↔ args = [byte1 n] := by
  match args with
  | [b] => rw [readProfileNumber, Option.some.injEq, List.singleton_inj, eq_byte1_iff n.isLt, Fin.ext_iff]; rfl
  | [] | _ :: _ :: _ => simp [readProfileNumber]

theorem exec_getProfile (fell : Fall) (args : List Byte) (s : State) :
    exec (.getProfile fell args) s
      = s.command fell args fun t =>
          (readProfileNumber args).elim (t.ended .badArg []) fun n => t.ended .ok (t.profiles[n].form n) := by
  change execGetProfile fell args s = _
  unfold execGetProfile
  congr 1
  funext t
  simp only [State.finishPlain_eq, State.finish_eq]
  match args with
  | [] | [_] | _ :: _ :: _ => rfl

/-- Settles O29: the sorted list is the ascending filter, and a profile's form is its argument form. -/
theorem holidayAndProfileCommands : Obligations.HolidayAndProfileCommands := by
  refine ⟨?putHolidays, ?putProfile, ?getProfile⟩
  case putHolidays =>
    refine endsAtOnce_of_read_iff (readCounted holidaysFit) (fun args l => ?_) exec_putHolidays
    rw [readCounted_iff (fun l hl => by have := (holidaysFit_iff l).1 hl; omega), holidaysFit_iff]
    tauto
  case putProfile =>
    refine endsAtOnce_of_read_value readProfile _ State.profileSet readProfile_iff exec_putProfile fun v t => ?_
    rw [floorSet_eq]
    rfl
  case getProfile =>
    refine endsAtOnce_of_read_iff readProfileNumber (fun args n => ?_) exec_getProfile
    rw [readProfileNumber_iff, true_and]

end Sys2Proof.Machine

/-! ## The commit check, and COMMIT MAP, DISCARD MAP and READ MAP (R63 to R66) -/

namespace Sys2Proof.Machine

theorem List.find?_range_first {n : Nat} {p : Nat → Bool} {i : Nat} (h : (List.range n).find? p = some i) :
    i < n ∧ p i = true ∧ ∀ j < i, p j = false := by
  obtain ⟨hp, hi, hbefore⟩ := List.find?_range_eq_some.1 h
  exact ⟨List.mem_range.1 hi, hp, fun j hj => by simpa using hbefore j hj⟩

theorem List.find?_finRange_first {n : Nat} {p : Fin n → Bool} {i : Fin n} (h : (List.finRange n).find? p = some i) :
    p i = true ∧ ∀ j < i, p j = false := by
  obtain ⟨hp, k, hk, rfl, hbefore⟩ := List.find?_eq_some_iff_getElem.1 h
  refine ⟨by simpa using hp, fun j hj => ?_⟩
  have hlt : j.val < k := by simpa [Fin.lt_def] using hj
  simpa using hbefore j.val hlt

/-! ### The items that fail, stage by stage -/

namespace FloorMap

theorem fails_unserved (m : FloorMap) (f : Nat) : m.Fails 1 f ↔ f < 160 ∧ m.unserved f = true := by
  simp only [FloorMap.Fails, FloorMap.unserved, true_and, Nat.reduceEqDiff, false_and, or_false]
  refine and_congr_right fun _ => ?_
  cases m.zoneOf f with
  | none => simp
  | some z =>
    simp only [Option.some.injEq, exists_eq_left']
    generalize m.zoneTable[z].localGroup = g
    cases g <;> simp

theorem fails_standby (m : FloorMap) (index : Nat) : m.Fails 2 index ↔ ∃ z : Fin 8, index = z.val ∧ m.standbyGap z = true := by
  simp only [FloorMap.Fails, FloorMap.standbyGap, true_and, Nat.reduceEqDiff, false_and, or_false, false_or]
  refine exists_congr fun z => ?_
  cases h : m.zoneTable[z].standby with
  | none => simp
  | some g => simp [Config.floors]

theorem transfer_at (m : FloorMap) (i : Fin 64) :
    m.transfer ⟨i.val / 8, by omega⟩ ⟨i.val % 8, by omega⟩ = m.transfers[i] := by
  have hindex : transferIndex ⟨i.val / 8, by omega⟩ ⟨i.val % 8, by omega⟩ = i := by
    ext; simp only [transferIndex]; omega
  exact congrArg (fun j : Fin 64 => m.transfers[j]) hindex

theorem fails_transfer (m : FloorMap) (index : Nat) :
    m.Fails 3 index
      ↔ ∃ i : Fin 64, index = i.val ∧ m.transferFault ⟨i.val / 8, by omega⟩ ⟨i.val % 8, by omega⟩ = true := by
  simp only [FloorMap.Fails, true_and, Nat.reduceEqDiff, false_and, or_false, false_or]
  refine exists_congr fun i => ?_
  rw [FloorMap.transferFault, transfer_at]
  generalize m.transfers[i] = t
  cases t with
  | none => simp
  | some t =>
    have hzone : (∃ a : Fin 8, a.val = i.val / 8 ∧ m.zoneOf t.floor = some a)
        ↔ m.zoneOf t.floor = some ⟨i.val / 8, by omega⟩ := by
      constructor
      · rintro ⟨a, ha, hz⟩
        rw [hz]; exact congrArg some (Fin.ext ha)
      · exact fun hz => ⟨_, rfl, hz⟩
    simp [hzone, or_assoc]

theorem fails_count (m : FloorMap) (f : Nat) : m.Fails 4 f ↔ f < 160 ∧ m.countFault f = true := by
  simp only [FloorMap.Fails, FloorMap.countFault, true_and, Nat.reduceEqDiff, false_and, false_or, Bool.and_eq_true,
    decide_eq_true_eq, Option.isSome_iff_ne_none]
  tauto

theorem kind_of_fails {m : FloorMap} {kind index : Nat} (h : m.Fails kind index) :
    kind = 1 ∨ kind = 2 ∨ kind = 3 ∨ kind = 4 := by
  rcases h with ⟨h, -⟩ | ⟨h, -⟩ | ⟨h, -⟩ | ⟨h, -⟩ <;> omega

/-- An item fails, and none before it by stage and index does. -/
def FirstFails (m : FloorMap) (kind index : Nat) : Prop :=
  m.Fails kind index ∧ ∀ k i, k < kind ∨ (k = kind ∧ i < index) → ¬ m.Fails k i

theorem firstFails_unique {m : FloorMap} {k i k' i' : Nat} (h : m.FirstFails k i) (h' : m.FirstFails k' i') :
    k = k' ∧ i = i' := by
  have hle : ¬ (k < k' ∨ (k = k' ∧ i < i')) := fun hlt => h'.2 k i hlt h.1
  have hge : ¬ (k' < k ∨ (k' = k ∧ i' < i)) := fun hlt => h.2 k' i' hlt h'.1
  omega

/-- The search of the four stages ends at the first failing item, or finds none (R63). -/
theorem firstFault_spec (m : FloorMap) :
    (m.firstFault = none ∧ ∀ kind index, ¬ m.Fails kind index)
      ∨ ∃ kind index, m.firstFault = some (kind, index) ∧ m.FirstFails kind index := by
  unfold FloorMap.firstFault
  cases h1 : (List.range Config.floors).find? m.unserved with
  | some f =>
    obtain ⟨hf, hfails, hbefore⟩ := List.find?_range_first h1
    refine .inr ⟨1, f, rfl, (m.fails_unserved f).2 ⟨hf, hfails⟩, fun k i hlt hki => ?_⟩
    have hk := kind_of_fails hki
    obtain ⟨rfl, hi⟩ : k = 1 ∧ i < f := by omega
    rw [fails_unserved, hbefore i hi] at hki
    exact Bool.false_ne_true hki.2
  | none =>
    have none1 (i : Nat) : ¬ m.Fails 1 i := fun h => by
      obtain ⟨hi, hfails⟩ := (m.fails_unserved i).1 h
      exact List.find?_eq_none.1 h1 i (List.mem_range.2 hi) hfails
    cases h2 : (List.finRange 8).find? m.standbyGap with
    | some z =>
      obtain ⟨hfails, hbefore⟩ := List.find?_finRange_first h2
      refine .inr ⟨2, z, rfl, (m.fails_standby z).2 ⟨z, rfl, hfails⟩, fun k i hlt hki => ?_⟩
      have hk := kind_of_fails hki
      have h1 : k ≠ 1 := fun h => none1 i (h ▸ hki)
      obtain ⟨rfl, hi⟩ : k = 2 ∧ i < z := by omega
      obtain ⟨z', rfl, hz'⟩ := (m.fails_standby i).1 hki
      rw [hbefore z' hi] at hz'
      exact Bool.false_ne_true hz'
    | none =>
      have none2 (i : Nat) : ¬ m.Fails 2 i := fun h => by
        obtain ⟨z, -, hfails⟩ := (m.fails_standby i).1 h
        exact List.find?_eq_none.1 h2 z (List.mem_finRange z) hfails
      dsimp only
      split
      next e h3 =>
        obtain ⟨hfails, hbefore⟩ := List.find?_finRange_first h3
        refine .inr ⟨3, e, rfl, (m.fails_transfer e).2 ⟨e, rfl, hfails⟩, fun k i hlt hki => ?_⟩
        have hk := kind_of_fails hki
        have h1 : k ≠ 1 := fun h => none1 i (h ▸ hki)
        have h2 : k ≠ 2 := fun h => none2 i (h ▸ hki)
        obtain ⟨rfl, hi⟩ : k = 3 ∧ i < e := by omega
        obtain ⟨e', rfl, he'⟩ := (m.fails_transfer i).1 hki
        rw [hbefore e' hi] at he'
        exact Bool.false_ne_true he'
      next h3 =>
        have none3 (i : Nat) : ¬ m.Fails 3 i := fun h => by
          obtain ⟨e, -, hfails⟩ := (m.fails_transfer i).1 h
          exact List.find?_eq_none.1 h3 e (List.mem_finRange e) hfails
        cases h4 : (List.range Config.floors).find? m.countFault with
        | some f =>
          obtain ⟨hf, hfails, hbefore⟩ := List.find?_range_first h4
          refine .inr ⟨4, f, rfl, (m.fails_count f).2 ⟨hf, hfails⟩, fun k i hlt hki => ?_⟩
          have hk := kind_of_fails hki
          have h1 : k ≠ 1 := fun h => none1 i (h ▸ hki)
          have h2 : k ≠ 2 := fun h => none2 i (h ▸ hki)
          have h3 : k ≠ 3 := fun h => none3 i (h ▸ hki)
          obtain ⟨rfl, hi⟩ : k = 4 ∧ i < f := by omega
          rw [fails_count, hbefore i hi] at hki
          exact Bool.false_ne_true hki.2
        | none =>
          refine .inl ⟨rfl, fun k i h => ?_⟩
          rcases kind_of_fails h with rfl | rfl | rfl | rfl
          · exact none1 i h
          · exact none2 i h
          · exact none3 i h
          · obtain ⟨hi, hfails⟩ := (m.fails_count i).1 h
            exact List.find?_eq_none.1 h4 i (List.mem_range.2 hi) hfails

theorem firstFault_eq_none_iff (m : FloorMap) : m.firstFault = none ↔ ∀ kind index, ¬ m.Fails kind index := by
  rcases m.firstFault_spec with ⟨hnone, hall⟩ | ⟨kind, index, hsome, hfirst⟩
  · exact ⟨fun _ => hall, fun _ => hnone⟩
  · rw [hsome]
    exact ⟨nofun, fun hall => absurd hfirst.1 (hall kind index)⟩

theorem firstFault_eq_some_iff (m : FloorMap) (kind index : Nat) :
    m.firstFault = some (kind, index) ↔ m.FirstFails kind index := by
  rcases m.firstFault_spec with ⟨hnone, hall⟩ | ⟨k, i, hsome, hfirst⟩
  · rw [hnone]
    exact ⟨nofun, fun h => absurd h.1 (hall kind index)⟩
  · rw [hsome, Option.some.injEq, Prod.mk.injEq]
    constructor
    · rintro ⟨rfl, rfl⟩; exact hfirst
    · exact firstFails_unique hfirst

end FloorMap

/-! ### The commands -/

theorem exec_commitMap (fell : Fall) (args : List Byte) (s : State) :
    exec (.commitMap fell args) s
      = s.plainCommand fell args fun t =>
          match t.staged.firstFault with
          | none => { t with live := t.staged }.ended .ok []
          | some x => t.ended .invalidMap [byte1 x.1, byte1 x.2] := by
  change execCommitMap fell args s = _
  unfold execCommitMap
  congr 1
  funext t
  simp only [State.finishPlain_eq, State.finish_eq]
  cases t.staged.firstFault <;> rfl

theorem exec_discardMap (fell : Fall) (args : List Byte) (s : State) :
    exec (.discardMap fell args) s = s.plainCommand fell args fun t => { t with staged := t.live }.ended .ok [] := by
  change execDiscardMap fell args s = _
  simp only [execDiscardMap, State.finishPlain_eq]

/-- The part and its index of READ MAP (R66). -/
def readMapPart (part index : Byte) : Option Args.MapPart :=
  match part.toNat with
  | 0 => some (.floors index)
  | 1 => (readId 12 index).map .group
  | 2 => (readId 8 index).map .zone
  | 3 => (readId 8 index).map .transfers
  | 4 => (readId 16 index).map .lobby
  | _ => none

theorem readMapPart_iff (part index : Byte) (p : Args.MapPart) :
    readMapPart part index = some p ↔ [part, index] = Args.mapPart p := by
  have hcode (n : Nat) (hn : n < 256) : part = byte1 n ↔ part.toNat = n := eq_byte1_iff hn part
  have h0 : part = 0#8 ↔ part.toNat = 0 := hcode 0 (by decide)
  have h1 : part = 1#8 ↔ part.toNat = 1 := hcode 1 (by decide)
  have h2 : part = 2#8 ↔ part.toNat = 2 := hcode 2 (by decide)
  have h3 : part = 3#8 ↔ part.toNat = 3 := hcode 3 (by decide)
  have h4 : part = 4#8 ↔ part.toNat = 4 := hcode 4 (by decide)
  unfold readMapPart
  rcases hp : part.toNat with _ | _ | _ | _ | _ | n <;> cases p <;>
    simp [Args.mapPart, h0, h1, h2, h3, h4, hp, readId_iff]

/-- What READ MAP reads: whether the staged map is selected, and the part (R66). -/
def readMapArgs : List Byte → Option (Bool × Args.MapPart)
  | [selector, part, index] => (readYesNo selector).bind fun x => (readMapPart part index).map fun p => (x, p)
  | _ => none

theorem readMapArgs_iff (args : List Byte) (v : Bool × Args.MapPart) : readMapArgs args = some v ↔ args = Args.readMap v := by
  obtain ⟨x, p⟩ := v
  match args with
  | [selector, part, index] =>
    have hread : readMapArgs [selector, part, index] = some (x, p)
        ↔ readYesNo selector = some x ∧ readMapPart part index = some p := by
      simp [readMapArgs, Option.bind_eq_some_iff, Option.map_eq_some_iff]
    rw [hread, readYesNo_iff, readMapPart_iff, Args.readMap, List.cons.injEq]
    rfl
  | [] | [_] | [_, _] | _ :: _ :: _ :: _ :: _ => cases p <;> simp [readMapArgs, Args.readMap, Args.mapPart]

/-- The bytes of the part named of the map selected (R66, R195). -/
def State.mapBytes (s : State) (v : Bool × Args.MapPart) : List Byte :=
  let m := if v.1 then s.staged else s.live
  match v.2 with
  | .floors _ => m.floorsForm
  | .group g => floorListForm m.served[g]
  | .zone z => [optByte m.zoneTable[z].localGroup, optByte m.zoneTable[z].standby]
  | .transfers a => m.transfersForm a
  | .lobby n => s.lobbies[n].form

theorem State.selected_eq (s : State) (b : Byte) :
    s.selected b.toNat = (readYesNo b).map fun x => if x then s.staged else s.live := by
  have h0 : b = 0#8 ↔ b.toNat = 0 := eq_byte1_iff (n := 0) (by decide) b
  have h1 : b = 1#8 ↔ b.toNat = 1 := eq_byte1_iff (n := 1) (by decide) b
  rw [readYesNo]
  rcases hb : b.toNat with _ | _ | n <;> simp [State.selected, h0, h1, hb]

theorem State.readMapBytes_eq (s : State) (selector part index : Byte) :
    s.readMapBytes selector part index = (readMapArgs [selector, part, index]).map s.mapBytes := by
  rw [State.readMapBytes, State.selected_eq, readMapArgs]
  cases readYesNo selector with
  | none => rfl
  | some x =>
    simp only [Option.map_some, Option.bind_some, readMapPart]
    rcases part.toNat with _ | _ | _ | _ | _ | n
    · rfl
    · cases readId 12 index <;> rfl
    · cases readId 8 index <;> rfl
    · cases readId 8 index <;> rfl
    · cases readId 16 index <;> rfl
    · rfl

theorem exec_readMap (fell : Fall) (args : List Byte) (s : State) :
    exec (.readMap fell args) s
      = s.command fell args fun t =>
          (readMapArgs args).elim (t.ended .badArg []) fun v => t.ended .ok (t.mapBytes v) := by
  change execReadMap fell args s = _
  unfold execReadMap
  congr 1
  funext t
  simp only [State.finishPlain_eq, State.finish_eq]
  match args with
  | [] | [_] | [_, _] | _ :: _ :: _ :: _ :: _ => rfl
  | [selector, part, index] =>
    simp only [State.readMapBytes_eq]
    cases readMapArgs [selector, part, index] <;> rfl

theorem optByte_eq {n : Nat} : (optByte : Option (Fin n) → Byte) = Args.optional := by
  funext g
  cases g <;> rfl

theorem FloorMap.transfersForm_eq (m : FloorMap) (a : Fin 8) :
    m.transfersForm a = (List.finRange 8).flatMap fun b =>
      match m.transfer a b with
      | some x => if a = b then [255, 0] else [byte1 x.group, byte1 x.floor]
      | none => [255, 0] := by
  unfold FloorMap.transfersForm
  congr 1
  funext b
  by_cases h : a = b
  · rw [if_pos h]
    cases m.transfer a b <;> simp [transferForm, h]
  · rw [if_neg h]
    cases m.transfer a b <;> simp [transferForm, h]

/-- Settles O31: the stages in their order, and the readers of the three commands. -/
theorem commitDiscardAndReadMap : Obligations.CommitDiscardAndReadMap := by
  refine ⟨fun m => ⟨m.firstFault_eq_none_iff, m.firstFault_eq_some_iff⟩, ?commit, ?discard, ?read⟩
  case commit =>
    refine endsAtOnce_of_plainCommand fun fell args s => (exec_commitMap fell args s).trans ?_
    congr 1
  case discard => exact endsAtOnce_of_plainCommand exec_discardMap
  case read =>
    refine endsAtOnce_of_read_iff readMapArgs (fun args v => by rw [readMapArgs_iff, true_and]) fun fell args s => ?_
    rw [exec_readMap]
    congr 1
    funext t
    cases readMapArgs args with
    | none => rfl
    | some v =>
      obtain ⟨x, p⟩ := v
      simp only [Option.elim_some]
      congr 1
      cases p with
      | transfers a => exact FloorMap.transfersForm_eq _ a
      | lobby n => simp [State.mapBytes, Lobby.form]
      | _ => simp only [State.mapBytes, FloorMap.floorsForm, optByte_eq] <;> rfl

end Sys2Proof.Machine

/-! ## SET LOBBY, SET SITES, SET MODE and SET CLOSURES (R71, R76 to R78) -/

namespace Sys2Proof.Machine

/-- The rule for a reader that gives only part of the values: the effect need follow from that part on valid values alone. -/
theorem endsAtOnce_of_read_valid {α β : Type} {make : Fall → List Byte → Instr} {write : α → List Byte}
    {valid : α → Prop} {effect : α → State → State} (read : List Byte → Option β) (value : α → β) (result : State → β → State)
    (hread : ∀ args x, read args = some x ↔ ∃ v, valid v ∧ args = write v ∧ value v = x)
    (hexec : ∀ fell args s, exec (make fell args) s
      = s.command fell args fun t => (read args).elim (t.ended .badArg []) (result t))
    (heffect : ∀ v t, valid v → result t (value v) = effect v t) :
    EndsAtOnce make write valid effect := by
  intro fell s hs
  have hrule := endsAtOnce_of_read_value (effect := fun v t => result t (value v)) read value result hread hexec
    (fun _ _ => rfl) fell s hs
  exact ⟨fun v hv => by rw [← heffect v _ hv, hrule.1 v hv], hrule.2⟩

/-- What SET LOBBY reads (R71). -/
def readLobby : List Byte → Option Args.LobbyValues
  | [n, origin, w1, w0, policy] =>
    (readId 16 n).bind fun n => (Fallback.ofCode policy.toNat).bind fun policy =>
      if origin.toNat ≤ 159 then some ⟨n, origin.toNat, num [w1, w0], policy⟩ else none
  | _ => none

theorem byte1_fallback_iff (b : Byte) (x : Fallback) : Fallback.ofCode b.toNat = some x ↔ b = byte1 x.code := by
  rw [Fallback.ofCode_iff, eq_byte1_iff (by cases x <;> decide)]

theorem readLobby_iff (args : List Byte) (v : Args.LobbyValues) :
    readLobby args = some v ↔ (v.origin ≤ 159 ∧ v.window ≤ 65535) ∧ args = Args.lobby v := by
  obtain ⟨lobby, origin, window, policy⟩ := v
  match args with
  | [n, o, w1, w0, p] =>
    simp only [readLobby, Option.bind_eq_some_iff, Option.ite_none_right_eq_some, Option.some.injEq,
      Args.LobbyValues.mk.injEq, Args.lobby, be_two, List.cons_append, List.nil_append, List.cons.injEq, and_true,
      byte1_fallback_iff, readId_iff (show 16 ≤ 256 by decide)]
    constructor
    · rintro ⟨n, rfl, p, rfl, ho, rfl, rfl, rfl, rfl⟩
      have hpair : [w1, w0] = [BitVec.ofNat 8 (num [w1, w0] / 256), BitVec.ofNat 8 (num [w1, w0])] := by
        rw [← be_two, be_two_num]
      obtain ⟨h1, h0⟩ := List.cons.inj hpair
      exact ⟨⟨ho, Nat.le_of_lt_succ (num_pair_lt w1 w0)⟩, rfl, (byte1_of_toNat o).symm, h1, List.singleton_inj.1 h0, rfl⟩
    · rintro ⟨⟨ho, hw⟩, rfl, rfl, rfl, rfl, rfl⟩
      have hbyte : (byte1 origin).toNat = origin := byte1_toNat (by omega)
      exact ⟨lobby, rfl, policy, rfl, by omega, rfl, hbyte, num_pair_of_be hw, rfl⟩
  | [] | [_] | [_, _] | [_, _, _] | [_, _, _, _] | _ :: _ :: _ :: _ :: _ :: _ :: _ =>
    simp [readLobby, Args.lobby, be_two]

/-- The effect of SET LOBBY (R71). -/
def State.lobbySet (s : State) (v : Args.LobbyValues) : State :=
  { s with lobbies := s.lobbies.set v.lobby { origin := v.origin, window := min 600 v.window, policy := v.policy } }.ended
    (if v.window ≤ 600 then .ok else .okClamped)
    ([byte1 v.origin] ++ be 2 (min 600 v.window) ++ [byte1 v.policy.code])

theorem exec_setLobby (fell : Fall) (args : List Byte) (s : State) :
    exec (.setLobby fell args) s = s.command fell args fun t => (readLobby args).elim (t.ended .badArg []) t.lobbySet := by
  change execSetLobby fell args s = _
  unfold execSetLobby
  congr 1
  funext t
  simp only [State.finishPlain_eq, State.finish_eq]
  match args with
  | [n, o, w1, w0, p] =>
    dsimp only [readLobby]
    cases readId 16 n with
    | none => rfl
    | some n =>
      cases Fallback.ofCode p.toNat with
      | none => rfl
      | some p =>
        simp only [Option.bind_some]
        by_cases h : o.toNat ≤ 159
        · rw [if_pos h]; exact if_pos (Nat.lt_succ_of_le h)
        · rw [if_neg h]; exact if_neg fun hlt => h (Nat.le_of_lt_succ hlt)
  | [] | [_] | [_, _] | [_, _, _] | [_, _, _, _] | _ :: _ :: _ :: _ :: _ :: _ :: _ => rfl

/-- What R76 asks of the site codes besides their form. -/
def sitesFit (l : List Nat) : Bool := decide (l.length ≤ 4) && l.all (fun c => decide (c ≤ 1023)) && decide l.Nodup

theorem sitesFit_iff (l : List Nat) : sitesFit l = true ↔ l.length ≤ 4 ∧ (∀ c ∈ l, c ≤ 1023) ∧ l.Nodup := by
  simp only [sitesFit, Bool.and_eq_true, decide_eq_true_eq, List.all_eq_true, and_assoc]

/-- The effect of SET SITES (R76). -/
def State.sitesSet (s : State) (l : List Nat) : State :=
  { s with settings := { s.settings with sites := l } }.ended .ok (Args.numbers l)

theorem exec_setSites (fell : Fall) (args : List Byte) (s : State) :
    exec (.setSites fell args) s
      = s.command fell args fun t => (readCounted sitesFit args).elim (t.ended .badArg []) t.sitesSet := by
  change execSetSites fell args s = _
  unfold execSetSites
  congr 1
  funext t
  simp only [State.finishPlain_eq, State.finish_eq]
  cases args with
  | nil => rfl
  | cons n rest =>
    dsimp only [readCounted]
    cases hread : readNumbers n.toNat rest with
    | none => rfl
    | some l =>
      have hlen := ((readNumbers_iff _ _ _).1 hread).1
      have hfit : (n.toNat ≤ 4 ∧ l.all (fun c => decide (c ≤ Config.maxSite)) = true ∧ l.Nodup) ↔ sitesFit l = true := by
        rw [← hlen, sitesFit_iff, List.all_eq_true]
        exact and_congr_right fun _ => and_congr_left fun _ => forall₂_congr fun c _ => decide_eq_true_iff
      rw [Option.filter_some]
      by_cases h : sitesFit l = true
      · rw [if_pos h]; exact if_pos (hfit.2 h)
      · rw [if_neg h]; exact if_neg fun hc => h (hfit.1 hc)

/-- What SET MODE reads (R77). -/
def readMode : List Byte → Option (BuildingMode × BitVec 4)
  | [m, a] => (BuildingMode.ofCode m.toNat).bind fun mode => if a.toNat < 16 then some (mode, a.setWidth 4) else none
  | _ => none

/-- A byte below 16 is its low four bits. -/
theorem setWidth_four_iff (a : Byte) (x : BitVec 4) : (a.toNat < 16 ∧ a.setWidth 4 = x) ↔ a = x.setWidth 8 := by
  revert a x; decide +kernel

theorem readMode_iff (args : List Byte) (v : BuildingMode × BitVec 4) : readMode args = some v ↔ args = Args.mode v := by
  obtain ⟨mode, classes⟩ := v
  match args with
  | [m, a] =>
    simp only [readMode, Option.bind_eq_some_iff, Option.ite_none_right_eq_some, Option.some.injEq, Prod.mk.injEq,
      Args.mode, List.cons.injEq, and_true, BuildingMode.ofCode_iff, ← setWidth_four_iff]
    rw [eq_byte1_iff (by cases mode <;> decide)]
    constructor
    · rintro ⟨x, hx, ha, rfl, hclasses⟩; exact ⟨hx, ha, hclasses⟩
    · rintro ⟨hx, ha, hclasses⟩; exact ⟨mode, hx, ha, rfl, hclasses⟩
  | [] | [_] | _ :: _ :: _ :: _ => simp [readMode, Args.mode]

/-- The effect of SET MODE (R77). -/
def State.buildingModeSet (s : State) (v : BuildingMode × BitVec 4) : State :=
  { s with settings := { s.settings with mode := v.1, admitSet := v.2 } }.ended .ok (Args.mode v)

theorem exec_setMode (fell : Fall) (args : List Byte) (s : State) :
    exec (.setMode fell args) s
      = s.command fell args fun t => (readMode args).elim (t.ended .badArg []) t.buildingModeSet := by
  change execSetMode fell args s = _
  unfold execSetMode
  congr 1
  funext t
  simp only [State.finishPlain_eq, State.finish_eq]
  match args with
  | [] | [_] | _ :: _ :: _ :: _ => rfl
  | [m, a] =>
    cases hread : readMode [m, a] with
    | some v =>
      have hargs := (readMode_iff [m, a] v).1 hread
      dsimp only [readMode] at hread
      obtain ⟨mode, hmode, hread⟩ := Option.bind_eq_some_iff.1 hread
      obtain ⟨ha, hv⟩ := Option.ite_none_right_eq_some.1 hread
      obtain rfl := Option.some.inj hv
      simp only [hmode, if_pos ha, Option.elim_some, State.buildingModeSet, ← hargs]
    | none =>
      dsimp only [readMode] at hread
      cases hmode : BuildingMode.ofCode m.toNat with
      | none => simp only [hmode]; rfl
      | some mode =>
        rw [hmode, Option.bind_some] at hread
        have ha : ¬ a.toNat < 16 := fun ha => by rw [if_pos ha] at hread; cases hread
        simp only [hmode, if_neg ha]
        rfl

theorem floorSet_nodup (l : List Nat) : (floorSet l).Nodup := List.nodup_range.filter _

theorem floorSet_length {l : List Nat} (h : ∀ f ∈ l, f ≤ 159) : (floorSet l).length = l.dedup.length :=
  ((List.perm_ext_iff_of_nodup (floorSet_nodup l) l.nodup_dedup).2 fun f => by
    rw [mem_floorSet, List.mem_dedup]
    exact ⟨fun hf => hf.2, fun hf => ⟨Nat.lt_succ_of_le (h f hf), hf⟩⟩).length_eq

/-- The effect of SET CLOSURES (R78). -/
def State.closuresSet (s : State) (fs : FloorSet) : State :=
  { s with settings := { s.settings with closures := fs } }.ended .ok [byte1 fs.length]

theorem exec_setClosures (fell : Fall) (args : List Byte) (s : State) :
    exec (.setClosures fell args) s
      = s.command fell args fun t => (readFloorSet args).elim (t.ended .badArg []) t.closuresSet := by
  change execSetClosures fell args s = _
  unfold execSetClosures
  congr 1
  funext t
  simp only [State.finishPlain_eq, State.finish_eq]
  cases readFloorSet args <;> rfl

/-- Settles O32: each command's reader reads exactly the frames its values write, and its body is the effect stated. -/
theorem lobbyAndBuildingSettings : Obligations.LobbyAndBuildingSettings := by
  refine ⟨?lobby, ?sites, ?mode, ?closures⟩
  case lobby => exact endsAtOnce_of_read_iff readLobby readLobby_iff exec_setLobby
  case sites =>
    refine endsAtOnce_of_read_iff (readCounted sitesFit) (fun args l => ?_) exec_setSites
    rw [readCounted_iff (fun l hl => by have := (sitesFit_iff l).1 hl; omega), sitesFit_iff]
    refine and_congr_left fun _ => and_iff_left_of_imp fun ⟨_, hcodes, _⟩ c hc => ?_
    have := hcodes c hc
    omega
  case mode => exact endsAtOnce_of_read_iff readMode (fun args v => by rw [readMode_iff, true_and]) exec_setMode
  case closures =>
    refine endsAtOnce_of_read_valid readFloorSet floorSet State.closuresSet readFloorSet_iff exec_setClosures fun l t hl => ?_
    rw [State.closuresSet, floorSet_length hl.2, floorSet_eq]

end Sys2Proof.Machine

/-! ## SET TIMERS (R79) -/

namespace Sys2Proof.Machine

/-- What SET TIMERS reads: five values of two bytes. -/
def readTimerValues (args : List Byte) : Option Timers := if args.length = 10 then some (readTimers args) else none

theorem readTimerValues_iff (args : List Byte) (v : Timers) :
    readTimerValues args = some v
      ↔ (v.offerTimeout ≤ 65535 ∧ v.tripLifetime ≤ 65535 ∧ v.retireGrace ≤ 65535 ∧ v.sweepInterval ≤ 65535
          ∧ v.nearFull ≤ 65535) ∧ args = Args.timers v := by
  rw [readTimerValues, Option.ite_none_right_eq_some, Option.some.injEq]
  constructor
  · rintro ⟨hlen, rfl⟩
    match args, hlen with
    | [a1, a0, b1, b0, c1, c0, d1, d0, e1, e0], _ =>
      have hle (x y : Byte) : num [x, y] ≤ 65535 := Nat.le_of_lt_succ (num_pair_lt x y)
      refine ⟨⟨hle a1 a0, hle b1 b0, hle c1 c0, hle d1 d0, hle e1 e0⟩, ?_⟩
      change _ = be 2 (num [a1, a0]) ++ be 2 (num [b1, b0]) ++ be 2 (num [c1, c0]) ++ be 2 (num [d1, d0])
        ++ be 2 (num [e1, e0])
      simp only [be_two_num, List.cons_append, List.nil_append]
  · rintro ⟨⟨ha, hb, hc, hd, he⟩, rfl⟩
    refine ⟨by simp [Args.timers], ?_⟩
    obtain ⟨a, b, c, d, e⟩ := v
    dsimp only at ha hb hc hd he
    simp only [readTimers, Args.timers, be_two, Timers.mk.injEq]
    exact ⟨num_pair_of_be ha, num_pair_of_be hb, num_pair_of_be hc, num_pair_of_be hd, num_pair_of_be he⟩

/-- The effect of SET TIMERS (R79, R161). -/
def State.timersSet (s : State) (v : Timers) : State :=
  { s with
    settings := { s.settings with timers := v.clamped }
    sweeper := { s.sweeper with
      timer :=
        if v.clamped.sweepInterval = s.settings.timers.sweepInterval then s.sweeper.timer
        else intervalTimer v.clamped.sweepInterval } }.ended
    (if v.inRange then .ok else .okClamped) v.clamped.form

theorem exec_setTimers (fell : Fall) (args : List Byte) (s : State) :
    exec (.setTimers fell args) s
      = s.command fell args fun t => (readTimerValues args).elim (t.ended .badArg []) t.timersSet := by
  change execSetTimers fell args s = _
  unfold execSetTimers
  congr 1
  funext t
  simp only [State.finishPlain_eq, State.finish_eq, readTimerValues]
  by_cases h : args.length = 10
  · simp only [if_pos h]; rfl
  · simp only [if_neg h]; rfl

/-- The five clamped values, bound by bound (R79). -/
theorem Timers.clamped_eq (v : Timers) :
    v.clamped
      = { offerTimeout := (if v.offerTimeout < 200 then 200 else if 5000 < v.offerTimeout then 5000 else
            v.offerTimeout - v.offerTimeout % 100)
          tripLifetime := (if v.tripLifetime < 30 then 30 else if 1800 < v.tripLifetime then 1800 else v.tripLifetime)
          retireGrace := (if 10080 < v.retireGrace then 10080 else v.retireGrace)
          sweepInterval := (if 1440 < v.sweepInterval then 1440 else v.sweepInterval)
          nearFull := (if 16384 < v.nearFull then 16384 else v.nearFull) } := by
  simp only [Timers.clamped, clamp, Timers.mk.injEq]
  refine ⟨?_, ?_, ?_, ?_, ?_⟩ <;> split_ifs <;> omega

/-- A value is clamped exactly where one lies outside its range (R79). -/
theorem Timers.inRange_eq (v : Timers) :
    v.inRange
      = !(decide (v.offerTimeout < 200) || decide (5000 < v.offerTimeout) || decide (v.tripLifetime < 30)
          || decide (1800 < v.tripLifetime) || decide (10080 < v.retireGrace) || decide (1440 < v.sweepInterval)
          || decide (16384 < v.nearFull)) := by
  simp only [Timers.inRange, Bool.not_or, ← decide_not, Nat.not_lt]

theorem ite_not_bool {α : Type} (b : Bool) (x y : α) : (if (!b) = true then x else y) = if b = true then y else x := by
  cases b <;> rfl

/-- Settles O33: ten bytes are read as five values, and the clamp is the nearer bound. -/
theorem setTimersClamps : Obligations.SetTimersClamps := by
  refine endsAtOnce_of_read_iff readTimerValues readTimerValues_iff fun fell args s => ?_
  rw [exec_setTimers]
  congr 1
  funext t
  congr 1
  funext v
  rw [State.timersSet, Timers.inRange_eq, ite_not_bool, Timers.clamped_eq]
  rfl

end Sys2Proof.Machine

/-! ## WATCH and READ WATCH (R125, R126) -/

namespace Sys2Proof.Machine

/-- What WATCH reads: no drop, or a link and a drop (R125). -/
def readWatchArgs : List Byte → Option Args.Selection
  | [p, l, d] =>
    (readYesNo p).bind fun x => if x then (readLinkDrop l d).map fun v => .drop v.1 v.2 else some (.none l d)
  | _ => none

theorem readWatchArgs_iff (args : List Byte) (v : Args.Selection) : readWatchArgs args = some v ↔ args = Args.selection v := by
  match args with
  | [p, l, d] =>
    simp only [readWatchArgs, Option.bind_eq_some_iff, readYesNo_iff, Bool.exists_bool, Bool.false_eq_true, if_false,
      if_true, Option.map_eq_some_iff, Option.some.injEq, readLinkDrop_iff, Prod.exists]
    cases v with
    | none a b => simp [Args.selection, yesNo]
    | drop l' d' => simp [Args.selection, yesNo]
  | [] | [_] | [_, _] | _ :: _ :: _ :: _ :: _ => cases v <;> simp [readWatchArgs, Args.selection]

/-- The drop a selection names, if one. -/
def namedDrop : Args.Selection → Option (Fin 4 × Fin 28)
  | .none _ _ => none
  | .drop l d => some (l, d)

theorem exec_watch (fell : Fall) (args : List Byte) (s : State) :
    exec (.watch fell args) s
      = s.command fell args fun t =>
          (readWatchArgs args).elim (t.ended .badArg []) fun v =>
            { t with watch := { selection := namedDrop v, record := none, count := 0 } }.ended .ok [] := by
  change execWatch fell args s = _
  unfold execWatch
  congr 1
  funext t
  simp only [State.finishPlain_eq]
  match args with
  | [] | [_] | [_, _] | _ :: _ :: _ :: _ :: _ => rfl
  | [p, l, d] =>
    simp only [readWatchArgs, readSelection]
    cases readYesNo p with
    | none => rfl
    | some x =>
      cases x with
      | false => rfl
      | true => cases readLinkDrop l d <;> rfl

theorem exec_readWatch (fell : Fall) (args : List Byte) (s : State) :
    exec (.readWatch fell args) s = s.plainCommand fell args fun t => t.ended .ok t.watchForm := by
  change execReadWatch fell args s = _
  simp only [execReadWatch, State.finish_eq]

/-- The bytes of a watch record, the absent values written out (R195). -/
theorem watchRecordForm_eq (r : Option WatchRecord) :
    watchRecordForm r
      = match r with
        | none => [0, 255, 255, 255, 255, 255, 255, 255, 255, 255, 255]
        | some w =>
          [1, byte1 w.kind.code] ++ be 2 w.key.site ++ be 3 w.key.card
            ++ (match w.requested with
                | some f => [byte1 f]
                | none => [255])
            ++ (match w.reply with
                | .accept g car _ _ => [0, byte1 g, byte1 car]
                | .plain c => [byte1 c.code, 255, 255]) := by
  cases r with
  | none => rfl
  | some w =>
    obtain ⟨kind, key, requested, reply⟩ := w
    cases requested <;> cases reply <;>
      simp [watchRecordForm, keyBytes, Reply.code, byte1]

/-- Settles O35: WATCH writes the selection read, READ WATCH the form of the state after the taking. -/
theorem watchCommands : Obligations.WatchCommands := by
  refine ⟨?watch, ?read⟩
  case watch =>
    exact endsAtOnce_of_read_iff readWatchArgs (fun args v => by rw [readWatchArgs_iff, true_and]) exec_watch
  case read =>
    refine endsAtOnce_of_plainCommand fun fell args s => (exec_readWatch fell args s).trans ?_
    congr 1
    funext t
    refine congrArg (t.ended .ok) ?_
    rw [State.watchForm, watchRecordForm_eq]
    cases t.watch.selection <;> rfl

end Sys2Proof.Machine

/-! ## SET ATTENTION, CLEAR ATTENTION and the ATTN line (R178 to R180) -/

namespace Sys2Proof.Machine

/-- What SET ATTENTION reads. -/
def readAttention : List Byte → Option (Byte × AttnMode)
  | [en, m] => (AttnMode.ofCode m.toNat).map fun mode => (en, mode)
  | _ => none

theorem readAttention_iff (args : List Byte) (v : Byte × AttnMode) :
    readAttention args = some v ↔ args = [v.1, byte1 v.2.code] := by
  obtain ⟨en, mode⟩ := v
  match args with
  | [e, m] =>
    simp only [readAttention, Option.map_eq_some_iff, Prod.mk.injEq, List.cons.injEq, and_true, AttnMode.ofCode_iff]
    rw [eq_byte1_iff (by cases mode <;> decide)]
    constructor
    · rintro ⟨x, hx, rfl, rfl⟩; exact ⟨rfl, hx⟩
    · rintro ⟨rfl, hx⟩; exact ⟨mode, hx, rfl, rfl⟩
  | [] | [_] | _ :: _ :: _ :: _ => simp [readAttention]

/-- The effect of SET ATTENTION (R178, R180). -/
def State.attentionSet (s : State) (v : Byte × AttnMode) : State :=
  { s with
    attention := { s.attention with
      enables := v.1, mode := v.2, release := if v.2 = AttnMode.level then 0 else s.attention.release } }.ended .ok
    [v.1, byte1 v.2.code, s.attention.pending]

theorem exec_setAttention (fell : Fall) (args : List Byte) (s : State) :
    exec (.setAttention fell args) s
      = s.command fell args fun t => (readAttention args).elim (t.ended .badArg []) t.attentionSet := by
  change execSetAttention fell args s = _
  unfold execSetAttention
  congr 1
  funext t
  simp only [State.finishPlain_eq, State.finish_eq]
  match args with
  | [] | [_] | _ :: _ :: _ :: _ => rfl
  | [en, m] =>
    dsimp only [readAttention]
    cases hm : AttnMode.ofCode m.toNat with
    | none => rfl
    | some mode =>
      have hbyte : m = byte1 mode.code := by
        rw [eq_byte1_iff (by cases mode <;> decide)]
        exact (AttnMode.ofCode_iff _ _).1 hm
      simp only [Option.map_some, Option.elim_some, State.attentionSet, ← hbyte]

/-- What CLEAR ATTENTION reads. -/
def readSources : List Byte → Option Byte
  | [set] => some set
  | _ => none

theorem readSources_iff (args : List Byte) (set : Byte) : readSources args = some set ↔ args = [set] := by
  match args with
  | [_] => simp [readSources]
  | [] | _ :: _ :: _ => simp [readSources]

theorem Attention.clearNamed_eq (a : Attention) (set : Byte) :
    a.clearNamed set
      = { a with
          pending := a.pending &&& ~~~set
          release :=
            if a.mode = AttnMode.pulse ∧ a.pending &&& a.enables &&& set ≠ 0 ∧ a.pending &&& ~~~set &&& a.enables ≠ 0 then 2
            else a.release } := by
  by_cases h : a.mode = AttnMode.pulse ∧ a.pending &&& a.enables &&& set ≠ 0 ∧ a.pending &&& ~~~set &&& a.enables ≠ 0
  · rw [if_pos h]; exact if_pos h
  · rw [if_neg h]; exact if_neg h

theorem exec_clearAttention (fell : Fall) (args : List Byte) (s : State) :
    exec (.clearAttention fell args) s
      = s.command fell args fun t => (readSources args).elim (t.ended .badArg []) fun set =>
          { t with attention := t.attention.clearNamed set }.ended .ok [t.attention.pending &&& ~~~set] := by
  change execClearAttention fell args s = _
  unfold execClearAttention
  congr 1
  funext t
  simp only [State.finishPlain_eq, State.finish_eq]
  match args with
  | [] | _ :: _ :: _ => rfl
  | [set] => simp only [readSources, Option.elim_some, Attention.clearNamed_eq]

/-- Settles O38, by the readers of the two commands, the row of the release's end and the definition of the line. -/
theorem attentionCommandsAndLine : Obligations.AttentionCommandsAndLine := by
  refine ⟨?set, ?clear, fun s hreset => ?pulseEnd, fun s => ?line⟩
  case set =>
    exact endsAtOnce_of_read_iff readAttention (fun args v => by rw [readAttention_iff, true_and]) exec_setAttention
  case clear =>
    refine endsAtOnce_of_read_iff readSources (fun args set => by rw [readSources_iff, true_and]) fun fell args s => ?_
    simp only [exec_clearAttention, Attention.clearNamed_eq]
  case pulseEnd =>
    change execAttnPulseEnd s = _
    rw [execAttnPulseEnd, hreset]
    rfl
  case line =>
    have hmode : (s.attention.mode == .level || s.attention.release == 0) = true
        ↔ (s.attention.mode = .pulse → s.attention.release = 0) := by
      cases s.attention.mode <;> simp
    simp only [State.attn, Bool.and_eq_true, Bool.not_eq_true', bne_iff_ne, hmode, Attention.live, and_assoc]

end Sys2Proof.Machine

/-! ## SET DROP, BAR DROP, UNBAR DROP and SET LINK (R105, R106, R111, R115) -/

namespace Sys2Proof.Machine

/-! ### SET DROP -/

/-- What SET DROP reads (R111). -/
def readDropEdit : List Byte → Option Args.DropValues
  | [l, d, en, n] =>
    (readLinkDrop l d).bind fun v => (readYesNo en).bind fun en => (readId 16 n).map fun n => ⟨v.1, v.2, en, n⟩
  | _ => none

theorem readDropEdit_iff (args : List Byte) (v : Args.DropValues) : readDropEdit args = some v ↔ args = Args.drop v := by
  obtain ⟨link, drop, enabled, lobby⟩ := v
  match args with
  | [l, d, en, n] =>
    simp only [readDropEdit, Option.bind_eq_some_iff, Option.map_eq_some_iff, readYesNo_iff, readLinkDrop_iff,
      readId_iff (show 16 ≤ 256 by decide), Args.drop, List.cons.injEq, and_true, Args.DropValues.mk.injEq]
    constructor
    · rintro ⟨v, ⟨rfl, rfl⟩, en, rfl, n, rfl, rfl, rfl, rfl, rfl⟩
      exact ⟨rfl, rfl, rfl, rfl⟩
    · rintro ⟨rfl, rfl, rfl, rfl⟩
      exact ⟨(link, drop), ⟨rfl, rfl⟩, enabled, rfl, lobby, rfl, rfl, rfl, rfl, rfl⟩
  | [] | [_] | [_, _] | [_, _, _] | _ :: _ :: _ :: _ :: _ :: _ => simp [readDropEdit, Args.drop]

/-- A drop record after SET DROP (R111). -/
def Drop.edited (x : Drop) (enabled : Bool) (lobby : Fin 16) : Drop :=
  if enabled then
    if x.state = .disabled then
      { x with state := .seeking, good := 0, failed := 0, blockPolls := 0, blockFailed := 0, lobby := lobby }
    else { x with lobby := lobby }
  else if x.state = .disabled then { x with lobby := lobby }
  else
    { lobby := lobby, state := .disabled, mode := x.mode, good := 0, failed := 0, blockPolls := 0,
      blockFailed := 0, transaction := none, side := none }

theorem Drop.edited_eq (x : Drop) (enabled : Bool) (lobby : Fin 16) :
    { x.setEnabled enabled with lobby := lobby } = x.edited enabled lobby := by
  obtain ⟨lobby', state, mode, good, failed, blockPolls, blockFailed, transaction, side⟩ := x
  cases enabled <;> cases state <;> rfl

theorem Drop.edited_enabled (x : Drop) (enabled : Bool) (lobby : Fin 16) : (x.edited enabled lobby).enabled = enabled := by
  unfold Drop.edited Drop.enabled
  cases enabled <;> cases x.state <;> simp

theorem List.any_finRange_getElem {α : Type} {n : Nat} (v : Vector α n) (p : α → Bool) :
    (List.finRange n).any (fun i => p v[i]) = v.toList.any p := by
  rw [Bool.eq_iff_iff, List.any_eq_true, List.any_eq_true]
  constructor
  · rintro ⟨i, -, hi⟩
    exact ⟨v[i], by simp, hi⟩
  · rintro ⟨x, hx, hp⟩
    obtain ⟨i, hi, rfl⟩ := Vector.mem_iff_getElem.1 (Vector.mem_toList_iff.1 hx)
    exact ⟨⟨i, hi⟩, List.mem_finRange _, hp⟩

/-- A link has an enabled drop exactly where not every drop is DISABLED. -/
theorem Link.anyEnabled_eq (k : Link) : k.anyEnabled = !(k.drops.toList.all fun z => z.state == .disabled) := by
  unfold Link.anyEnabled Link.dropEnabled
  rw [List.any_finRange_getElem k.drops Drop.enabled, List.not_all_eq_any_not]
  rfl

/-- A link whose drop record is written and whose poll and walk follow it (R107, R111). -/
def Link.edited (k : Link) (d : Fin 28) (enabled : Bool) (lobby : Fin 16) : Link :=
  let drops := k.drops.set d (k.drops[d].edited enabled lobby)
  { k with
    drops := drops
    poll := if enabled then k.poll else k.poll.filter fun p => p.drop != d
    walk := if drops.toList.all fun z => z.state == .disabled then 0 else k.walk }

theorem Link.edited_eq (k : Link) (d : Fin 28) (enabled : Bool) (lobby : Fin 16) :
    ({ k with drops := k.drops.set d (k.drops[d].edited enabled lobby) } : Link).afterSetDrop d = k.edited d enabled lobby := by
  have hdrop : ({ k with drops := k.drops.set d (k.drops[d].edited enabled lobby) } : Link).dropEnabled d = enabled := by
    simp [Link.dropEnabled, Drop.edited_enabled]
  unfold Link.afterSetDrop Link.edited
  rw [hdrop, Link.anyEnabled_eq]
  simp only [ite_not_bool]

theorem State.writeDrop_eq (s : State) (v : Args.DropValues) :
    s.writeDrop v.link v.drop v.enabled v.lobby
      = { s with links := s.links.set v.link (s.links[v.link].edited v.drop v.enabled v.lobby) }.recompute := by
  have hset (x : Drop) (y : Link) :
      { s.setDrop v.link v.drop x with links := (s.setDrop v.link v.drop x).links.set v.link y }
        = { s with links := s.links.set v.link y } := by
    simp [State.setDrop]
  have hlink (x : Drop) : (s.setDrop v.link v.drop x).links[v.link]
      = { s.links[v.link] with drops := s.links[v.link].drops.set v.drop x } := by
    simp [State.setDrop]
  unfold State.writeDrop
  simp only [Drop.edited_eq, hset, hlink, State.drop, Link.edited_eq]

theorem exec_setDrop (fell : Fall) (args : List Byte) (s : State) :
    exec (.setDrop fell args) s
      = s.command fell args fun t => (readDropEdit args).elim (t.ended .badArg []) fun v =>
          (t.writeDrop v.link v.drop v.enabled v.lobby).ended .ok [] := by
  change execSetDrop fell args s = _
  unfold execSetDrop
  congr 1
  funext t
  simp only [State.finishPlain_eq]
  match args with
  | [] | [_] | [_, _] | [_, _, _] | _ :: _ :: _ :: _ :: _ :: _ => rfl
  | [l, d, en, n] =>
    simp only [readDropEdit]
    cases readLinkDrop l d with
    | none => rfl
    | some v =>
      cases readYesNo en with
      | none => rfl
      | some en =>
        cases readId 16 n with
        | none => rfl
        | some n => simp only [Option.bind_some, Option.map_some, Option.elim_some]

/-! ### BAR DROP and UNBAR DROP -/

/-- What BAR DROP and UNBAR DROP read (R115). -/
def readDropName : List Byte → Option (Fin 4 × Fin 28)
  | [l, d] => readLinkDrop l d
  | _ => none

theorem readDropName_iff (args : List Byte) (v : Fin 4 × Fin 28) : readDropName args = some v ↔ args = Args.linkDrop v := by
  match args with
  | [l, d] => simp only [readDropName, readLinkDrop_iff, Args.linkDrop, List.cons.injEq, and_true]
  | [] | [_] | _ :: _ :: _ :: _ => simp [readDropName, Args.linkDrop]

theorem State.modeCommand_eq (fell : Fall) (args : List Byte) (m : AnswerMode) (s : State) :
    s.modeCommand fell args m
      = s.command fell args fun t => (readDropName args).elim (t.ended .badArg []) fun v =>
          (t.setDrop v.1 v.2 { t.drop v.1 v.2 with mode := m }).ended .ok [] := by
  unfold State.modeCommand
  congr 1
  funext t
  simp only [State.finishPlain_eq]
  match args with
  | [] | [_] | _ :: _ :: _ :: _ => rfl
  | [l, d] =>
    simp only [readDropName]
    cases readLinkDrop l d <;> rfl

/-! ### SET LINK -/

/-- What SET LINK reads (R105). -/
def readLinkEdit : List Byte → Option (Fin 4 × LinkSettings)
  | [l, en, g, d1, d0, limit] =>
    (readId 4 l).bind fun l => (readYesNo en).bind fun en => (Granularity.ofCode g.toNat).map fun g =>
      (l, { enabled := en, granularity := g, divisor := num [d1, d0], limit := limit.toNat })
  | _ => none

theorem readLinkEdit_iff (args : List Byte) (v : Fin 4 × LinkSettings) :
    readLinkEdit args = some v ↔ (v.2.divisor ≤ 65535 ∧ v.2.limit ≤ 255) ∧ args = Args.link v := by
  obtain ⟨link, enabled, granularity, divisor, limit⟩ := v
  have hcode (b : Byte) (x : Granularity) : Granularity.ofCode b.toNat = some x ↔ b = byte1 x.code := by
    rw [Granularity.ofCode_iff, eq_byte1_iff (by cases x <;> decide)]
  match args with
  | [l, en, g, d1, d0, lim] =>
    simp only [readLinkEdit, Option.bind_eq_some_iff, Option.map_eq_some_iff, readYesNo_iff, hcode,
      readId_iff (show 4 ≤ 256 by decide), Args.link, be_two, List.cons_append, List.nil_append, List.cons.injEq, and_true,
      Prod.mk.injEq, LinkSettings.mk.injEq]
    constructor
    · rintro ⟨l, rfl, en, rfl, g, rfl, rfl, rfl, rfl, rfl, rfl⟩
      have hpair : [d1, d0] = [BitVec.ofNat 8 (num [d1, d0] / 256), BitVec.ofNat 8 (num [d1, d0])] := by
        rw [← be_two, be_two_num]
      obtain ⟨h1, h0⟩ := List.cons.inj hpair
      exact ⟨⟨Nat.le_of_lt_succ (num_pair_lt d1 d0), Nat.le_of_lt_succ lim.isLt⟩, rfl, rfl, rfl, h1,
        List.singleton_inj.1 h0, (byte1_of_toNat lim).symm⟩
    · rintro ⟨⟨hd, hlim⟩, rfl, rfl, rfl, rfl, rfl, rfl⟩
      exact ⟨link, rfl, enabled, rfl, granularity, rfl, rfl, rfl, rfl, num_pair_of_be hd,
        byte1_toNat (Nat.lt_succ_of_le hlim)⟩
  | [] | [_] | [_, _] | [_, _, _] | [_, _, _, _] | [_, _, _, _, _] | _ :: _ :: _ :: _ :: _ :: _ :: _ :: _ =>
    simp [readLinkEdit, Args.link, be_two]

/-- The effect of SET LINK (R105). -/
def State.linkEdited (s : State) (v : Fin 4 × LinkSettings) : State :=
  { s with links := s.links.set v.1 (s.links[v.1].withSettings v.2.clamped) }.recompute.ended
    (if v.2.clamped = v.2 then .ok else .okClamped) v.2.clamped.form

theorem exec_setLink (fell : Fall) (args : List Byte) (s : State) :
    exec (.setLink fell args) s
      = s.command fell args fun t => (readLinkEdit args).elim (t.ended .badArg []) t.linkEdited := by
  change execSetLink fell args s = _
  unfold execSetLink
  congr 1
  funext t
  simp only [State.finishPlain_eq, State.finish_eq]
  match args with
  | [] | [_] | [_, _] | [_, _, _] | [_, _, _, _] | [_, _, _, _, _] | _ :: _ :: _ :: _ :: _ :: _ :: _ :: _ => rfl
  | [l, en, g, d1, d0, lim] =>
    simp only [readLinkEdit]
    cases readId 4 l with
    | none => rfl
    | some l =>
      cases readYesNo en with
      | none => rfl
      | some en =>
        cases Granularity.ofCode g.toNat with
        | none => rfl
        | some g => simp only [Option.bind_some, Option.map_some, Option.elim_some, State.linkEdited]

/-- The clamped settings, bound by bound (R105). -/
theorem LinkSettings.clamped_eq (x : LinkSettings) :
    x.clamped
      = { x with
          divisor := min (if x.granularity = .power then 14 else 4095) x.divisor
          limit := if x.limit < 1 then 1 else if 15 < x.limit then 15 else x.limit } := by
  obtain ⟨enabled, granularity, divisor, limit⟩ := x
  simp only [LinkSettings.clamped, clamp, Nat.zero_max, LinkSettings.mk.injEq, true_and]
  refine ⟨by cases granularity <;> rfl, ?_⟩
  split_ifs <;> omega

/-- A link under new settings: cut off where an enabled link is disabled, its walk anew where the enabled setting changes (R106,
R107). -/
theorem Link.withSettings_eq (k : Link) (x : LinkSettings) :
    k.withSettings x
      = { settings := x
          drops := k.drops.map fun d : Drop =>
            if (k.settings.enabled && !x.enabled) && d.state != DropState.disabled then
              { lobby := d.lobby, state := .seeking, mode := d.mode, good := 0, failed := 0, blockPolls := 0,
                blockFailed := 0, transaction := none, side := none }
            else d
          walk := if k.settings.enabled != x.enabled then 0 else k.walk
          poll := if k.settings.enabled && !x.enabled then none else k.poll } := by
  have hcut : (fun d : Drop => if d.state != DropState.disabled then
      { lobby := d.lobby, state := .seeking, mode := d.mode, good := 0, failed := 0, blockPolls := 0,
        blockFailed := 0, transaction := none, side := none } else d) = Drop.cutOff := by
    funext d
    rfl
  unfold Link.withSettings
  cases hk : k.settings.enabled <;> cases hx : x.enabled
  · simp
  · simp
  · simp [← hcut]
  · simp

/-- Settles O34: the readers of the four commands, and the drop and the link they leave. -/
theorem dropAndLinkCommands : Obligations.DropAndLinkCommands := by
  refine ⟨?setDrop, ?bar, ?unbar, ?setLink⟩
  case setDrop =>
    refine endsAtOnce_of_read_iff readDropEdit (fun args v => by rw [readDropEdit_iff, true_and]) fun fell args s => ?_
    simp only [exec_setDrop, State.writeDrop_eq]
    rfl
  case bar =>
    refine endsAtOnce_of_read_iff readDropName (fun args v => by rw [readDropName_iff, true_and]) fun fell args s => ?_
    exact State.modeCommand_eq fell args .barred s
  case unbar =>
    refine endsAtOnce_of_read_iff readDropName (fun args v => by rw [readDropName_iff, true_and]) fun fell args s => ?_
    exact State.modeCommand_eq fell args .serve s
  case setLink =>
    refine endsAtOnce_of_read_iff readLinkEdit readLinkEdit_iff fun fell args s => ?_
    rw [exec_setLink]
    refine congrArg (s.command fell args) (funext fun t => congrArg ((readLinkEdit args).elim _) (funext fun v => ?_))
    rw [State.linkEdited, Link.withSettings_eq, LinkSettings.clamped_eq]
    rfl

end Sys2Proof.Machine

/-! ## The recomputation of the lobbies and the posting of a reply (R120, R123, R124, R133) -/

namespace Sys2Proof.Machine

/-- A lobby whose state by the drop records enters or leaves SERVED (R124). -/
def State.crosses (s : State) (n : Fin 16) : Bool :=
  s.serviceOf n != s.service[n] && (s.serviceOf n == .served || s.service[n] == .served)

/-- The notice of a lobby's state by the drop records. -/
def State.noticeOf (s : State) (n : Fin 16) : TxFrame := .notice n (s.serviceOf n) s.lobbies[n].policy

/-- LOBBY_CHANGE raised for a list of lobbies that cross. -/
def Attention.lobbiesCrossed (a : Attention) (crossed : List (Fin 16)) : Attention :=
  if crossed = [] then a else { a with pending := a.pending ||| 4#8 }

/-- The recomputation of a list of lobbies, field by field. -/
def State.recomputed (s : State) (l : List (Fin 16)) : State :=
  { s with
    service := l.foldl (fun v (n : Fin 16) => v.set n (s.serviceOf n)) s.service
    attention := s.attention.lobbiesCrossed (l.filter s.crosses)
    dispatch := ((l.filter s.crosses).map s.noticeOf).foldl DispatchLink.queueNotice s.dispatch }

theorem Attention.lobbiesCrossed_cons (a : Attention) (n : Fin 16) (l : List (Fin 16)) :
    a.lobbiesCrossed (n :: l) = (a.raise .lobbyChange).lobbiesCrossed l := by
  cases l with
  | nil => rfl
  | cons m l => simp [Attention.lobbiesCrossed, Attention.raise, BitVec.or_assoc]

/-- One lobby: where its state stays, nothing; else its state, and where it crosses the raise and the notice. -/
theorem State.recomputeLobby_eq (s : State) (n : Fin 16) : s.recomputeLobby n = s.recomputed [n] := by
  unfold State.recomputeLobby State.recomputed
  by_cases hstays : s.serviceOf n = s.service[n]
  · have hcross : s.crosses n = false := by simp [State.crosses, hstays]
    simp [hstays, hcross, Attention.lobbiesCrossed]
  · by_cases hserved : s.serviceOf n = .served ∨ s.service[n] = .served
    · have hcross : s.crosses n = true := by
        simp only [State.crosses, Bool.and_eq_true, bne_iff_ne, Bool.or_eq_true, beq_iff_eq]
        exact ⟨hstays, hserved⟩
      rw [if_neg hstays, if_pos hserved, List.filter_singleton, hcross]
      rfl
    · have hcross : s.crosses n = false := by
        rw [State.crosses, Bool.and_eq_false_iff]
        right
        simpa only [Bool.or_eq_false_iff, beq_eq_false_iff_ne, not_or] using hserved
      rw [if_neg hstays, if_neg hserved, List.filter_singleton, hcross]
      rfl

/-- A recomputed lobby leaves what the drop records give the others, and whether they cross. -/
theorem State.crosses_recomputed_of_ne {s : State} {n m : Fin 16} (h : m ≠ n) :
    (s.recomputed [n]).crosses m = s.crosses m := by
  have hservice : (s.recomputed [n]).service[m] = s.service[m] := by
    simp only [State.recomputed, List.foldl_cons, List.foldl_nil]
    exact Vector.getElem_set_ne _ m.isLt fun hval => h (Fin.ext hval.symm)
  simp only [State.crosses, hservice]
  rfl

theorem State.recomputed_cons {s : State} {n : Fin 16} {l : List (Fin 16)} (h : n ∉ l) :
    (s.recomputed [n]).recomputed l = s.recomputed (n :: l) := by
  have hcrosses : l.filter (s.recomputed [n]).crosses = l.filter s.crosses :=
    List.filter_congr fun m hm => State.crosses_recomputed_of_ne (fun hmn => h (hmn ▸ hm))
  rw [State.recomputed, hcrosses]
  cases hn : s.crosses n with
  | true => simp only [State.recomputed, List.filter_cons, hn, if_true, List.filter_nil, Attention.lobbiesCrossed_cons]; rfl
  | false =>
    simp only [State.recomputed, List.filter_cons, hn, Bool.false_eq_true, if_false, List.filter_nil]; rfl

theorem State.foldl_recomputeLobby {l : List (Fin 16)} (h : l.Nodup) (s : State) :
    l.foldl State.recomputeLobby s = s.recomputed l := by
  induction l generalizing s with
  | nil => rfl
  | cons n l ih =>
    obtain ⟨hn, hl⟩ := List.nodup_cons.1 h
    rw [List.foldl_cons, ih hl, State.recomputeLobby_eq, State.recomputed_cons hn]

theorem State.recompute_eq (s : State) : s.recompute = s.recomputed (List.finRange 16) :=
  State.foldl_recomputeLobby (List.nodup_finRange 16) s

/-- Notices join the tail in their order while fewer than 32 wait; past that the re-announcement is owed (R133). -/
theorem DispatchLink.foldl_queueNotice (d : DispatchLink) {l : List TxFrame} (h : ∀ f ∈ l, f.isNotice = true) :
    l.foldl DispatchLink.queueNotice d
      = { d with
          queue := d.queue ++ l.take (32 - d.queue.countP TxFrame.isNotice)
          owed := if l ≠ [] ∧ 32 < d.queue.countP TxFrame.isNotice + l.length then true else d.owed } := by
  induction l generalizing d with
  | nil => simp
  | cons f l ih =>
    have hl : ∀ f ∈ l, f.isNotice = true := fun g hg => h g (List.mem_cons_of_mem _ hg)
    rw [List.foldl_cons, ih _ hl, DispatchLink.queueNotice, Config.noticeCapacity]
    by_cases hfull : 32 ≤ d.queue.countP TxFrame.isNotice
    · have hnone : 32 - d.queue.countP TxFrame.isNotice = 0 := by omega
      have hpast : 32 < d.queue.countP TxFrame.isNotice + (f :: l).length := by rw [List.length_cons]; omega
      rw [if_pos hfull]
      dsimp only
      rw [if_pos (show f :: l ≠ [] ∧ _ from ⟨List.cons_ne_nil f l, hpast⟩), ite_self]
      simp [hnone]
    · have hone : 32 - d.queue.countP TxFrame.isNotice = 32 - (d.queue.countP TxFrame.isNotice + 1) + 1 := by omega
      have hcount : (d.queue ++ [f]).countP TxFrame.isNotice = d.queue.countP TxFrame.isNotice + 1 := by
        simp [h f List.mem_cons_self]
      have howed : (l ≠ [] ∧ 32 < d.queue.countP TxFrame.isNotice + 1 + l.length)
          ↔ (f :: l ≠ [] ∧ 32 < d.queue.countP TxFrame.isNotice + (f :: l).length) := by
        rw [List.length_cons]
        cases l with
        | nil => simp; omega
        | cons g l => simp; omega
      rw [if_neg hfull]
      simp only [hcount, howed]
      rw [hone, List.take_succ_cons, List.append_assoc, List.singleton_append]

/-- Settles O39: the fold over the lobbies field by field, and the two cases of a posting. -/
theorem lobbiesRecomputedAndRepliesPosted : Obligations.LobbiesRecomputedAndRepliesPosted := by
  refine ⟨fun s => ?_, fun s e en r => ⟨fun tr htr he => State.post_held htr he r, fun h => State.post_unheld h r⟩⟩
  intro t crossed
  have hnotices : ∀ f ∈ crossed.map s.noticeOf, f.isNotice = true := by
    intro f hf
    obtain ⟨n, -, rfl⟩ := List.mem_map.1 hf
    rfl
  have hdispatch : t.dispatch
      = { s.dispatch with
          queue := s.dispatch.queue
            ++ (crossed.map s.noticeOf).take (32 - s.dispatch.queue.countP TxFrame.isNotice)
          owed := if crossed.map s.noticeOf ≠ [] ∧ 32 < s.dispatch.queue.countP TxFrame.isNotice + (crossed.map s.noticeOf).length
            then true else s.dispatch.owed } := by
    rw [← DispatchLink.foldl_queueNotice s.dispatch hnotices]
    exact congrArg State.dispatch s.recompute_eq
  refine ⟨?frame, fun n => ?service, congrArg State.attention s.recompute_eq, ?dispatch, congrArg DispatchLink.queue hdispatch, ?owed⟩
  case frame =>
    have h := s.recompute_eq
    change t = _ at h
    rw [h]
    rfl
  case service =>
    rw [State.recompute_service]
    exact ⟨State.serviceOf_served, State.serviceOf_unserved, State.serviceOf_vacant⟩
  case dispatch => rw [hdispatch]
  case owed => simpa using congrArg DispatchLink.owed hdispatch

end Sys2Proof.Machine

/-! ## Polling a link's drops (R107, R119, R126) -/

namespace Sys2Proof.Machine

theorem List.find?_finRange_iff {n : Nat} {p : Fin n → Bool} {i : Fin n} :
    (List.finRange n).find? p = some i ↔ p i = true ∧ ∀ j < i, p j = false := by
  refine ⟨List.find?_finRange_first, fun ⟨hp, hbefore⟩ => ?_⟩
  refine List.find?_eq_some_iff_getElem.2 ⟨hp, i.val, by simp, by simp, fun j hj => ?_⟩
  simpa using hbefore ⟨j, by omega⟩ hj

theorem Link.dropEnabled_iff (k : Link) (d : Fin 28) : k.dropEnabled d = true ↔ k.drops[d].state ≠ .disabled :=
  Drop.enabled_iff _

theorem Link.next_none {k : Link} (h : ∀ d : Fin 28, ¬ k.drops[d].state ≠ .disabled) : k.next = none := by
  have hall : (List.finRange 28).find? k.dropEnabled = none :=
    List.find?_eq_none.2 fun d _ hd => h d ((k.dropEnabled_iff d).1 hd)
  have hfirst : ((List.finRange 28).find? fun d => decide (k.walk < address d) && k.dropEnabled d) = none :=
    List.find?_eq_none.2 fun d _ hd => h d ((k.dropEnabled_iff d).1 (Bool.and_eq_true_iff.1 hd).2)
  rw [Link.next, hfirst, hall]

/-- The walk goes to the lowest enabled address above the one last polled (R107). -/
theorem Link.next_above {k : Link} {d : Fin 28} (hd : k.drops[d].state ≠ .disabled) (habove : k.walk < d.val + 1)
    (hfirst : ∀ d' : Fin 28, k.drops[d'].state ≠ .disabled → k.walk < d'.val + 1 → d ≤ d') : k.next = some d := by
  have hfind : ((List.finRange 28).find? fun d => decide (k.walk < address d) && k.dropEnabled d) = some d := by
    refine List.find?_finRange_iff.2 ⟨?_, fun d' hlt => Bool.eq_false_iff.2 fun hd' => ?_⟩
    · exact Bool.and_eq_true_iff.2 ⟨decide_eq_true habove, (k.dropEnabled_iff d).2 hd⟩
    · obtain ⟨habove', hd'⟩ := Bool.and_eq_true_iff.1 hd'
      exact absurd (hfirst d' ((k.dropEnabled_iff d').1 hd') (of_decide_eq_true habove')) (not_le.2 hlt)
  rw [Link.next, hfind]

/-- With no enabled address above the one last polled the walk wraps to the lowest one (R107). -/
theorem Link.next_wraps {k : Link} {d : Fin 28} (hd : k.drops[d].state ≠ .disabled)
    (hnone : ∀ d' : Fin 28, k.drops[d'].state ≠ .disabled → d'.val + 1 ≤ k.walk)
    (hfirst : ∀ d' : Fin 28, k.drops[d'].state ≠ .disabled → d ≤ d') : k.next = some d := by
  have habove : ((List.finRange 28).find? fun d => decide (k.walk < address d) && k.dropEnabled d) = none := by
    refine List.find?_eq_none.2 fun d' _ hd' => ?_
    obtain ⟨habove', hd'⟩ := Bool.and_eq_true_iff.1 hd'
    exact absurd (hnone d' ((k.dropEnabled_iff d').1 hd')) (not_le.2 (of_decide_eq_true habove'))
  have hfind : (List.finRange 28).find? k.dropEnabled = some d :=
    List.find?_finRange_iff.2 ⟨(k.dropEnabled_iff d).2 hd, fun d' hlt => Bool.eq_false_iff.2 fun hd' =>
      absurd (hfirst d' ((k.dropEnabled_iff d').1 hd')) (not_le.2 hlt)⟩
  rw [Link.next, habove, hfind]

/-! ### What a poll carries -/

theorem Drop.item_reply {x : Drop} {tr : Transaction} {r : Reply} (htr : x.transaction = some tr) (hr : tr.reply = some r) :
    x.item = .reply r tr.request.number := by
  simp [Drop.item, htr, hr]

/-- The reply slot of a drop without an unsent reply is empty. -/
theorem Drop.slot_empty {x : Drop} (h : ∀ tr, x.transaction = some tr → tr.reply = none) :
    (x.transaction.bind fun t => t.reply.map fun r => (r, t.request.number)) = none := by
  cases htr : x.transaction with
  | none => rfl
  | some tr => simp [h tr htr]

theorem Drop.item_nothing {x : Drop} (h : ∀ tr, x.transaction = some tr → tr.reply = none) (hside : x.side = none) :
    x.item = .nothing := by
  rw [Drop.item, Drop.slot_empty h, hside]

theorem Drop.item_side {x : Drop} {a : SideAnswer} (h : ∀ tr, x.transaction = some tr → tr.reply = none)
    (hside : x.side = some a) : x.item = .side a.code a.number := by
  rw [Drop.item, Drop.slot_empty h, hside]

/-! ### The poll -/

/-- The watch after a delivery or a side answer of a drop (R126). -/
def Watch.written (w : Watch) (l : Fin 4) (d : Fin 28) (r : WatchRecord) : Watch :=
  if w.selection = some (l, d) then { w with record := some r, count := min 65535 (w.count + 1) } else w

theorem State.watchWrite_eq (s : State) (l : Fin 4) (d : Fin 28) (r : WatchRecord) :
    s.watchWrite l d r = { s with watch := s.watch.written l d r } := by
  unfold State.watchWrite Watch.written
  split_ifs <;> rfl

/-- The watch after a poll of a drop: written where the poll carries a side answer (R119). -/
def State.watchPolled (s : State) (l : Fin 4) (d : Fin 28) : Watch :=
  match (s.drop l d).item, (s.drop l d).side with
  | .side _ _, some a => s.watch.written l d a.record
  | _, _ => s.watch

theorem State.watchPoll_eq (s : State) (l : Fin 4) (d : Fin 28) : s.watchPoll l d = { s with watch := s.watchPolled l d } := by
  unfold State.watchPoll State.watchPolled
  cases (s.drop l d).item <;> cases (s.drop l d).side <;> first | rfl | exact s.watchWrite_eq l d _

/-- Sending a poll: the watch, the walk, the poll under way, and the drop without its side answer (R107, R119). -/
theorem State.sendPoll_eq (s : State) (l : Fin 4) (d : Fin 28) :
    s.sendPoll l d
      = { s with
          watch := s.watchPolled l d
          links := s.links.set l { s.links[l] with
            walk := d.val + 1
            poll := some { drop := d, item := (s.drop l d).item, settings := s.links[l].settings }
            drops := s.links[l].drops.set d { s.drop l d with side := none } } } := by
  unfold State.sendPoll
  simp [State.watchPoll_eq, State.setDrop, address]

theorem exec_poll_idle {s : State} {l : Fin 4}
    (h : s.links[l].settings.enabled = false ∨ s.links[l].poll ≠ none ∨ ∀ d : Fin 28, ¬ s.links[l].drops[d].state ≠ .disabled) :
    exec (.poll l) s = .next s := by
  change execPoll l s = _
  rw [execPoll]
  rcases h with h | h | h
  · rw [if_pos (.inr (.inl h))]
  · rw [if_pos (.inr (.inr (Option.isSome_iff_ne_none.2 h)))]
  · rw [Link.next_none h, ite_self]

theorem exec_poll_next {s : State} {l : Fin 4} {d : Fin 28} (hreset : s.inReset = false)
    (henabled : s.links[l].settings.enabled = true) (hpoll : s.links[l].poll = none) (hnext : s.links[l].next = some d) :
    exec (.poll l) s = .next (s.sendPoll l d) := by
  change execPoll l s = _
  have hidle : ¬ (s.inReset = true ∨ s.links[l].settings.enabled = false ∨ s.links[l].poll.isSome = true) := by
    rw [hreset, henabled, hpoll]; decide
  rw [execPoll, if_neg hidle, hnext]

/-- Settles O40: the walk's next drop, and the poll that is sent to it. -/
theorem pollGoesToTheNextEnabledDrop : Obligations.PollGoesToTheNextEnabledDrop := by
  intro s l hreset k on turn
  refine ⟨exec_poll_idle, fun d henabled hpoll hturn => ?_⟩
  intro x sent
  have hnext : k.next = some d := by
    obtain ⟨hd, ⟨habove, hfirst⟩ | ⟨hnone, hfirst⟩⟩ := hturn
    · exact Link.next_above hd habove hfirst
    · exact Link.next_wraps hd hnone hfirst
  have hsent {item : PollItem} (hitem : x.item = item) : exec (.poll l) s = .next (sent item (s.watchPolled l d)) := by
    rw [exec_poll_next hreset henabled hpoll hnext, State.sendPoll_eq, ← hitem]
    rfl
  refine ⟨fun tr r htr hr => ?_, fun hempty => ⟨fun hside => ?_, fun a hside => ?_⟩⟩
  · have hitem : (s.drop l d).item = .reply r tr.request.number := Drop.item_reply htr hr
    rw [hsent hitem, State.watchPolled, hitem]
  · have hitem : (s.drop l d).item = .nothing := Drop.item_nothing hempty hside
    rw [hsent hitem, State.watchPolled, hitem]
  · have hitem : (s.drop l d).item = .side a.code a.number := Drop.item_side hempty hside
    have hside' : (s.drop l d).side = some a := hside
    rw [hsent hitem, State.watchPolled, hitem, hside']
    rfl

end Sys2Proof.Machine

/-! ## The outcome of a poll (R108, R109, R116, R121) -/

namespace Sys2Proof.Machine

theorem exec_pollAnswer_idle {s : State} {l : Fin 4} (h : s.links[l].poll = none) (bytes : List Byte) :
    exec (.pollAnswer l bytes) s = .next s := by
  change execPollAnswer l bytes s = _
  rw [execPollAnswer, h, ite_self]

theorem exec_pollAnswerTimeout_idle {s : State} {l : Fin 4} (h : s.links[l].poll = none) :
    exec (.pollAnswerTimeout l) s = .next s := by
  change execPollAnswerTimeout l s = _
  rw [execPollAnswerTimeout, h, ite_self]

section PollUnderWay
variable {s : State} {l : Fin 4} {p : Poll} (hreset : s.inReset = false) (hpoll : s.links[l].poll = some p)
include hreset hpoll

theorem exec_pollAnswerTimeout_failed :
    exec (.pollAnswerTimeout l) s = .next ((s.endPoll l).supervise l p.drop false) := by
  change execPollAnswerTimeout l s = _
  rw [execPollAnswerTimeout, hreset, hpoll]
  rfl

theorem exec_pollAnswer_failed {bytes : List Byte} (h : readAnswer p.drop bytes = none) :
    exec (.pollAnswer l bytes) s = .next ((s.endPoll l).supervise l p.drop false) := by
  change execPollAnswer l bytes s = _
  simp only [execPollAnswer, hreset, hpoll, h]
  rfl

theorem exec_pollAnswer_good {bytes : List Byte} {a : Answer} (h : readAnswer p.drop bytes = some a) :
    exec (.pollAnswer l bytes) s = .next ((s.endPoll l).goodAnswer l p a) := by
  change execPollAnswer l bytes s = _
  simp only [execPollAnswer, hreset, hpoll, h]
  rfl

end PollUnderWay

/-- A poll that carried no reply delivers none (R121). -/
theorem State.deliver_nothing {s : State} {l : Fin 4} {p : Poll} (h : ∀ r number, p.item ≠ .reply r number) :
    s.deliver l p = s := by
  have hnot : p.carriedReply = false := by
    unfold Poll.carriedReply
    cases hitem : p.item with
    | reply r number => exact absurd hitem (h r number)
    | _ => rfl
  rw [State.deliver, hnot, if_neg Bool.false_ne_true]

/-- A poll that carried the reply of an open transaction closes it and writes the watch (R121, R126). -/
theorem State.deliver_reply {s : State} {l : Fin 4} {p : Poll} {r r' : Reply} {number : Byte} {tr : Transaction}
    (hitem : p.item = .reply r number) (htr : (s.drop l p.drop).transaction = some tr) (hr : tr.reply = some r') :
    s.deliver l p
      = { s.setDrop l p.drop { s.drop l p.drop with transaction := none } with
          watch := s.watch.written l p.drop
            { kind := tr.request.kind, key := tr.request.key, requested := tr.request.requested, reply := r' } } := by
  have hcarried : p.carriedReply = true := by rw [Poll.carriedReply, hitem]
  have hdelivery : (s.drop l p.drop).delivery
      = some { kind := tr.request.kind, key := tr.request.key, requested := tr.request.requested, reply := r' } := by
    simp [Drop.delivery, htr, hr]
  rw [State.deliver, if_pos hcarried]
  simp only [hdelivery, State.watchWrite_eq]
  rfl

theorem State.tamper_eq (s : State) (l : Fin 4) (d : Fin 28) :
    s.tamper l d
      = { s with
          links := s.links.set l { s.links[l] with
            drops := s.links[l].drops.set d { s.links[l].drops[d] with mode := .barred } }
          attention := { s.attention with pending := s.attention.pending ||| 2#8 } } := by
  simp only [State.tamper, State.raise, Attention.raise, Source.mask_tamper]
  rfl

theorem State.endPoll_drop (s : State) (l : Fin 4) (d : Fin 28) : (s.endPoll l).drop l d = s.drop l d := by
  simp [State.endPoll, State.drop]

/-- Settles O41: the four steps of a good answer are the four states named. -/
theorem pollOutcomesInOrder : Obligations.PollOutcomesInOrder := by
  intro s l hreset
  refine ⟨fun hpoll => ⟨exec_pollAnswerTimeout_idle hpoll, exec_pollAnswer_idle hpoll⟩, fun p hpoll => ?_⟩
  intro s1 d
  refine ⟨exec_pollAnswerTimeout_failed hreset hpoll, fun bytes h => exec_pollAnswer_failed hreset hpoll h,
    fun bytes a h => ?_⟩
  refine ⟨s1.deliver l p, (s1.deliver l p).supervise l d true,
    if a.tamper then ((s1.deliver l p).supervise l d true).tamper l d else (s1.deliver l p).supervise l d true,
    exec_pollAnswer_good hreset hpoll h, rfl, ?tamper, State.deliver_nothing, fun r number tr r' hitem htr hr => ?reply⟩
  case tamper => rw [State.tamper_eq]
  case reply =>
    have hdrop : s1.drop l p.drop = s.drop l d := s.endPoll_drop l p.drop
    rw [State.deliver_reply hitem (hdrop ▸ htr) hr, hdrop]
    rfl

end Sys2Proof.Machine

/-! ## The checks of a good REQUEST and its arrival (R81, R82, R118, R119) -/

namespace Sys2Proof.Machine

/-- The early checks in order, each with its reply (R81). -/
def State.earlyChecks (s : State) (r : Request) (origin : Nat) : List (Prop × ReplyCode) :=
  [(s.emg = true, .holdEmergency), (s.clock.state ≠ .running, .holdClock), (s.dispatch.state = .silent, .holdNoAnswer),
   (∀ e : Fin 64, s.entries[e] ≠ none, .holdBusy), (r.key.site ∉ s.settings.sites, .denyForeign),
   (∃ f, r.requested = some f ∧ (s.live.count ≤ f ∨ s.live.zoneOf f = none), .refuseBadFloor),
   (r.requested = some origin, .refuseSameFloor)]

open Classical in
/-- The early answer is the reply of the first check that holds (R81). -/
theorem State.earlyAnswer_eq (s : State) (r : Request) (origin : Nat) :
    s.earlyAnswer r origin = ((s.earlyChecks r origin).find? fun x => decide x.1).map Prod.snd := by
  unfold State.earlyAnswer State.earlyChecks
  simp only [← State.freeEntry_none]
  by_cases hemg : s.emg = true
  · simp [hemg]
  by_cases hclock : s.clock.state ≠ .running
  · simp [hemg, hclock]
  by_cases hlink : s.dispatch.state = .silent
  · simp [hemg, hclock, hlink]
  by_cases hfree : s.freeEntry = none
  · simp [hemg, hclock, hlink, hfree]
  by_cases hsite : r.key.site ∉ s.settings.sites
  · simp [hemg, hclock, hlink, hfree, hsite]
  cases r.requested with
  | none => simp [hemg, hclock, hlink, hfree, hsite]
  | some f =>
    by_cases hbad : s.live.count ≤ f ∨ s.live.zoneOf f = none
    · simp [hemg, hclock, hlink, hfree, hsite, hbad]
    · by_cases hsame : f = origin
      · subst hsame
        simp [hemg, hclock, hlink, hfree, hsite, hbad]
      · simp [hemg, hclock, hlink, hfree, hsite, hbad, hsame]

theorem List.find?_of_first {α : Type} {p : α → Bool} {l : List α} {i : Nat} {x : α} (hx : l[i]? = some x) (hp : p x = true)
    (hbefore : ∀ (j : Nat) y, j < i → l[j]? = some y → p y = false) : l.find? p = some x := by
  obtain ⟨hi, rfl⟩ := List.getElem?_eq_some_iff.1 hx
  refine List.find?_eq_some_iff_getElem.2 ⟨hp, i, hi, rfl, fun j hj => ?_⟩
  rw [hbefore j l[j] hj (List.getElem?_eq_getElem (hj.trans hi))]
  rfl

theorem State.earlyAnswer_first {s : State} {r : Request} {origin i : Nat} {p : Prop} {c : ReplyCode}
    (hi : (s.earlyChecks r origin)[i]? = some (p, c)) (hp : p)
    (hbefore : ∀ (j : Nat) p' c', j < i → (s.earlyChecks r origin)[j]? = some (p', c') → ¬ p') :
    s.earlyAnswer r origin = some c := by
  classical
  have hfind := List.find?_of_first (p := fun x : Prop × ReplyCode => decide x.1) hi (decide_eq_true hp)
    fun j y hj hy => decide_eq_false (hbefore j y.1 y.2 hj hy)
  rw [State.earlyAnswer_eq, hfind]
  rfl

theorem State.earlyAnswer_none {s : State} {r : Request} {origin : Nat}
    (h : ∀ (i : Nat) p c, (s.earlyChecks r origin)[i]? = some (p, c) → ¬ p) : s.earlyAnswer r origin = none := by
  classical
  rw [State.earlyAnswer_eq, Option.map_eq_none_iff, List.find?_eq_none]
  intro x hx
  obtain ⟨i, hi⟩ := List.getElem?_of_mem hx
  simpa using h i x.1 x.2 hi

/-- An accepted request: its transaction is opened and it arrives at the engine (R118). -/
theorem State.request_accepted {s : State} {l : Fin 4} {d : Fin 28} (r : Request) (hanswers : (s.drop l d).answering = true)
    (hmode : (s.drop l d).mode = .serve) (htr : (s.drop l d).transaction = none) :
    s.request l d r
      = (s.setDrop l d { s.drop l d with transaction := some { request := r, entry := none, reply := none } }).arrive l d r := by
  simp [State.request, hanswers, hmode, htr, Request.transaction]

/-- An early answer stands in the slot of the transaction just opened (R80, R81). -/
theorem State.arrive_answered {s : State} {l : Fin 4} {d : Fin 28} {x : Drop} {r : Request} {tr : Transaction} {c : ReplyCode}
    (htr : x.transaction = some tr) (h : s.earlyAnswer r s.lobbies[x.lobby].origin = some c) :
    (s.setDrop l d x).arrive l d r
      = s.setDrop l d { x with transaction := some { tr with reply := some (.plain c) } } := by
  have hdrop : (s.setDrop l d x).drop l d = x := State.drop_setDrop s l d x
  have hearly : (s.setDrop l d x).earlyAnswer r (s.setDrop l d x).lobbies[x.lobby].origin = some c := h
  simp only [State.arrive, hdrop, hearly, State.setDrop_setDrop, Drop.withReply, htr, Option.map_some]

/-- Where no early check holds the arrival takes the lowest-numbered free entry (R82). -/
theorem State.arrive_taken {s : State} {l : Fin 4} {d : Fin 28} {x : Drop} {r : Request} {e : Fin 64}
    (h : s.earlyAnswer r s.lobbies[x.lobby].origin = none) (hfree : s.freeEntry = some e) :
    (s.setDrop l d x).arrive l d r = (s.setDrop l d x).takeEntry e l d s.lobbies[x.lobby].origin r := by
  have hdrop : (s.setDrop l d x).drop l d = x := State.drop_setDrop s l d x
  have hearly : (s.setDrop l d x).earlyAnswer r (s.setDrop l d x).lobbies[x.lobby].origin = none := h
  have hfree' : (s.setDrop l d x).freeEntry = some e := hfree
  simp only [State.arrive, hdrop, hearly, hfree']
  rfl

/-- Taking an entry for a transaction just opened: its number, the entry and the home probe (R82). -/
theorem State.takeEntry_opened (s : State) (e : Fin 64) (l : Fin 4) (d : Fin 28) (x : Drop) (origin : Nat) (r : Request) :
    (s.setDrop l d { x with transaction := some { request := r, entry := none, reply := none } }).takeEntry e l d origin r
      = { s.setDrop l d { x with transaction := some { request := r, entry := some e, reply := none } } with
          entries := s.entries.set e (some (newEntry l d x.lobby origin r))
          banks := s.banks.set (bankOf r.key.home) { s.banks[bankOf r.key.home] with
            lookup := s.banks[bankOf r.key.home].lookup ++ [{ bucket := r.key.home, entry := e, kind := .probe }] } } := by
  have hset (y z : Drop) : ((s.setDrop l d y).setEntry e (some (newEntry l d x.lobby origin r))).setDrop l d z
      = { s.setDrop l d z with entries := s.entries.set e (some (newEntry l d x.lobby origin r)) } := by
    simp [State.setDrop, State.setEntry]
  simp only [State.takeEntry, State.drop_setDrop, hset, Option.map_some]
  rfl

/-- Settles O43: the three refusals, the first early check that holds, and the entry taken. -/
theorem requestChecksAndArrival : Obligations.RequestChecksAndArrival := by
  intro s l d r x answers turned origin early
  have hanswers : x.answering = true ↔ answers := x.answering_iff
  have hturned (c : ReplyCode) : s.setDrop l d (x.turnAway r c) = turned c := by
    simp only [turned, Drop.turnAway]
    cases x.transaction <;> rfl
  refine ⟨fun h => ?_, fun h hmode => ?_, fun h hmode htr => ?_, fun h hmode htr => ⟨fun i p c hi hp hbefore => ?_,
    fun e hnone hfree hlower => ?_⟩⟩
  · rw [← hturned]
    exact if_pos (by rw [Bool.eq_false_iff.2 fun ha => h (hanswers.1 ha)]; rfl)
  · rw [← hturned]
    exact (if_neg (by rw [hanswers.2 h]; decide)).trans (if_pos hmode)
  · rw [← hturned]
    exact (if_neg (by rw [hanswers.2 h]; decide)).trans ((if_neg (by rw [hmode]; decide)).trans
      (if_pos (Option.isSome_iff_ne_none.2 htr)))
  · rw [State.request_accepted r (hanswers.2 h) hmode htr]
    have hearly : s.earlyAnswer r origin = some c := State.earlyAnswer_first (s := s) (r := r) (origin := origin) hi hp hbefore
    exact State.arrive_answered (s := s) (x := { x with transaction := some { request := r, entry := none, reply := none } })
      (tr := { request := r, entry := none, reply := none }) rfl hearly
  · intro home
    rw [State.request_accepted r (hanswers.2 h) hmode htr]
    have hearly : s.earlyAnswer r origin = none := State.earlyAnswer_none (s := s) (r := r) (origin := origin) hnone
    refine (State.arrive_taken (x := { x with transaction := some { request := r, entry := none, reply := none } }) hearly
      (State.freeEntry_some.2 ⟨hfree, hlower⟩)).trans ?_
    exact State.takeEntry_opened s e l d x origin r

end Sys2Proof.Machine

/-! ## Good frames, answers and offers' ends (R97, R98, R132 to R145) -/

namespace Sys2Proof.Machine

/-! ### LINK ANSWER, GROUP STATE and stale answers -/

theorem exec_linkAnswer {s : State} (h : s.inReset = false) : exec .linkAnswer s = .next s.heard :=
  State.receive_eq h id

theorem exec_groupState {s : State} (h : s.inReset = false) (g : Fin 12) (x : GroupState) :
    exec (.groupState g x) s = .next (s.heard.setGroupState g x) :=
  State.receive_eq h fun s => s.setGroupState g x

theorem exec_decline (tag : Byte) (reason : DeclineReason) (s : State) :
    exec (.decline tag reason) s = execDecline tag reason s := rfl

/-- Settles O44: the liveness step, and the content of each frame after it. -/
theorem goodFramesKeepTheLinkAlive : Obligations.GoodFramesKeepTheLinkAlive := by
  intro s hreset
  refine ⟨exec_linkAnswer hreset, fun g x => ?_, fun tag hnone => ?_⟩
  · rw [exec_groupState hreset, State.setGroupState, State.heard_groups]
  · have hfound : s.outstanding tag = none := State.outstanding_none hnone
    refine ⟨fun car => ?_, fun reason => ?_⟩
    · simp only [exec_assign, execAssign, State.receive_eq hreset, State.heard_outstanding, hfound, State.stale,
        State.heard_staleAnswers]
      rfl
    · simp only [exec_decline, execDecline, State.receive_eq hreset, State.heard_outstanding, hfound, State.stale,
        State.heard_staleAnswers]
      rfl

/-! ### DECLINE of an outstanding offer -/

/-- A declined or expired offer of an entry that holds what was found: the reply, then the reversal (R98). -/
theorem State.failOffer_found (s : State) (e : Fin 64) {en : Entry} {f : Found} (hf : en.found = some f) (c : ReplyCode) :
    s.failOffer e en c = (s.post e en (.plain c)).reversing e en f := by
  unfold State.failOffer State.startReversal
  split
  next f' hf' =>
    rw [hf] at hf'
    obtain rfl := Option.some.inj hf'
    rfl
  next hf' =>
    rw [hf] at hf'
    cases hf'

theorem exec_decline_outstanding {s : State} {tag : Byte} {e : Fin 64} {en : Entry} (hreset : s.inReset = false)
    (hk : s.TagsKept) (ho : s.Outstanding tag e en) (reason : DeclineReason) :
    exec (.decline tag reason) s = .next ((s.heard.declineGroup en reason).failOffer e en (declineReply reason)) := by
  simp only [exec_decline, execDecline, State.receive_eq hreset, State.heard_outstanding, State.outstanding_unique hk ho]

/-- Settles O46: the table, the reply and the reversal, reason by reason. -/
theorem declineRepliesAndReverses : Obligations.DeclineRepliesAndReverses := by
  intro s tag reason e en g f hreset hk ho hg hf t reply
  have hreply : declineReply reason = reply := by cases reason <;> rfl
  have hgroup : s.heard.declineGroup en reason = t := by
    cases reason with
    | groupOut => simp only [State.declineGroup, hg, State.setGroupState, State.heard_groups]; rfl
    | groupFull => rfl
    | noCar => rfl
  rw [exec_decline_outstanding hreset hk ho, hgroup, hreply, State.failOffer_found t e hf]

/-! ### OFFER_EXPIRY -/

section Expiry
variable {s : State} {e : Fin 64} {en : Entry} {tag : Byte} {deadline : Nat} {sent : Bool} (hreset : s.inReset = false)
  (he : s.entries[e] = some en) (hst : en.state = .offered tag deadline sent)
include hreset he hst

omit hreset in
theorem exec_offerExpiry_before (h : s.reference < deadline) : exec (.offerExpiry e) s = .next s := by
  change execOfferExpiry e s = _
  simp only [execOfferExpiry, he, hst, if_pos h, ite_self]

theorem exec_offerExpiry_due (h : deadline ≤ s.reference) {f : Found} (hf : en.found = some f) :
    exec (.offerExpiry e) s
      = .next (((if sent then s.countTimeout else s.dropOffer e).post e en (.plain .holdNoAnswer)).reversing e en f) := by
  rw [← State.failOffer_found _ e hf]
  change execOfferExpiry e s = _
  simp only [execOfferExpiry, hreset, he, hst, if_neg (not_lt.2 h)]
  rfl

end Expiry

theorem TxFrame.disown_eq (e : Fin 64) : TxFrame.disown e = TxFrame.orphaned e := by
  funext f
  cases f with
  | offer o x =>
    cases o with
    | none => rfl
    | some o =>
      by_cases h : o = e
      · simp [TxFrame.disown, TxFrame.orphaned, h]
      · simp [TxFrame.disown, TxFrame.orphaned, h]
  | _ => rfl

/-- A timeout that does not make the link SILENT is only counted (R135). -/
theorem State.countTimeout_counts {s : State} (h : ¬ (2 ≤ s.dispatch.timeouts ∧ s.dispatch.state = .active)) :
    s.countTimeout = { s with dispatch := { s.dispatch with timeouts := min 3 (s.dispatch.timeouts + 1) } } := by
  rw [State.countTimeout]
  exact if_neg fun hc => h ⟨by have := hc.1; dsimp only at this; omega, hc.2⟩

theorem DispatchLink.queueLinkCheck_eq (d : DispatchLink) :
    d.queueLinkCheck = { d with queue := if .linkCheck ∈ d.queue then d.queue else d.queue ++ [.linkCheck] } := by
  unfold DispatchLink.queueLinkCheck
  simp only [List.contains_iff_mem]
  split_ifs <;> rfl

/-- The third consecutive timeout of an ACTIVE link makes it SILENT (R135). -/
theorem State.countTimeout_falls {s : State} (h : 2 ≤ s.dispatch.timeouts) (hactive : s.dispatch.state = .active) :
    s.countTimeout
      = { s with
          dispatch := { s.dispatch with
            timeouts := 3, state := .silent, checkTimer := some 1000
            queue := if .linkCheck ∈ s.dispatch.queue then s.dispatch.queue else s.dispatch.queue ++ [.linkCheck] }
          attention := { s.attention with pending := s.attention.pending ||| 8#8 } } := by
  have hthree : min 3 (s.dispatch.timeouts + 1) = 3 := by omega
  rw [State.countTimeout, hthree]
  refine (if_pos ⟨rfl, hactive⟩).trans ?_
  simp only [State.becomeSilent, DispatchLink.queueLinkCheck_eq, State.raise, Attention.raise, Source.mask_dispatchChange]
  rfl

/-- Settles O47: the row before the deadline, and the three ends of an offer from it on. -/
theorem expiryHoldsAndReverses : Obligations.ExpiryHoldsAndReverses := by
  intro s e en tag deadline sent f hreset he hst hf timeouts falls
  refine ⟨exec_offerExpiry_before he hst, fun hdue hsent => ?_, fun hdue hsent hfalls => ?_,
    fun hdue hsent hfalls => ?_⟩
  · rw [exec_offerExpiry_due hreset he hst hdue hf, hsent, if_neg Bool.false_ne_true, State.dropOffer, TxFrame.disown_eq]
  · rw [exec_offerExpiry_due hreset he hst hdue hf, hsent, if_pos rfl, State.countTimeout_counts hfalls]
  · rw [exec_offerExpiry_due hreset he hst hdue hf, hsent, if_pos rfl, State.countTimeout_falls hfalls.1 hfalls.2]

/-! ### Bad frames -/

theorem exec_dispatchBadFrame {s : State} {bytes : List Byte} (hreset : s.inReset = false) (h : readDispatch bytes = none) :
    exec (.dispatchBadFrame bytes) s = .next s.frameError := by
  change execDispatchBadFrame bytes s = _
  simp only [execDispatchBadFrame, h, hreset]
  rfl

/-- Settles O48, row by row. -/
theorem badDispatchFramesAreCounted : Obligations.BadDispatchFramesAreCounted := by
  intro s hreset counted
  refine ⟨fun bytes h => exec_dispatchBadFrame hreset h, fun h => ?_, fun h => ?_, ?_⟩
  · change execDispatchFrameGap s = _
    rw [execDispatchFrameGap, if_neg (by rw [hreset, h]; decide)]
    rfl
  · change execDispatchFrameGap s = _
    rw [execDispatchFrameGap, if_pos (.inr h)]
  · change execFrameBegins s = _
    rw [execFrameBegins, hreset]
    rfl

/-! ### Sent frames and the LINK CHECK timer -/

theorem exec_frameTransmit_idle {s : State} (h : s.dispatch.sending ≠ none ∨ s.dispatch.queue = []) :
    exec .frameTransmit s = .next s := by
  change execFrameTransmit s = _
  rw [execFrameTransmit]
  rcases h with h | h
  · rw [if_pos (.inr (Option.isSome_iff_ne_none.2 h))]
  · rw [h, ite_self]

theorem exec_frameTransmit_head {s : State} {x : TxFrame} {rest : List TxFrame} (hreset : s.inReset = false)
    (hfree : s.dispatch.sending = none) (hqueue : s.dispatch.queue = x :: rest) :
    exec .frameTransmit s
      = .next { s with
          dispatch := { s.dispatch with
            sending := some x
            queue := if reannounceDue x rest s.dispatch.owed then rest ++ s.notices else rest
            owed := if reannounceDue x rest s.dispatch.owed then false else s.dispatch.owed } } := by
  change execFrameTransmit s = _
  rw [execFrameTransmit, if_neg (by rw [hreset, hfree]; decide), hqueue]
  cases hdue : reannounceDue x rest s.dispatch.owed with
  | false => simp only [hdue]; rfl
  | true =>
    have hrest : rest.filter (fun f => !f.isNotice) = rest := by
      refine List.filter_eq_self.2 fun f hf => ?_
      simp only [reannounceDue, Bool.and_eq_true, Bool.not_eq_true', List.any_eq_false, Bool.not_eq_true] at hdue
      rw [hdue.2 f hf]
      rfl
    simp only [hdue, if_true, State.reannounce, hrest]
    rfl

theorem exec_frameSent_idle {s : State} (h : s.dispatch.sending = none) : exec .frameSent s = .next s := by
  change execFrameSent s = _
  rw [execFrameSent, h, ite_self]

theorem exec_frameSent {s : State} {x : TxFrame} (hreset : s.inReset = false) (h : s.dispatch.sending = some x) :
    exec .frameSent s = .next ({ s with dispatch := { s.dispatch with sending := none } }.sent x) := by
  change execFrameSent s = _
  simp only [execFrameSent, hreset, h]
  rfl

theorem Entry.markSent_offered {en : Entry} {tag : Byte} {d : Nat} {y : Bool} (h : en.state = .offered tag d y) :
    en.markSent = { en with state := .offered tag d true } := by
  simp only [Entry.markSent, h]

theorem Entry.markSent_other {en : Entry} (h : ∀ tag d y, en.state ≠ .offered tag d y) : en.markSent = en := by
  cases hst : en.state with
  | offered tag d y => exact absurd hst (h tag d y)
  | _ => simp only [Entry.markSent, hst]

theorem State.sent_offer {s : State} {e : Fin 64} {en : Entry} (he : s.entries[e] = some en) (o : Offer) :
    s.sent (.offer (some e) o) = s.setEntry e (some en.markSent) := by
  simp only [State.sent, he]

theorem exec_frameSent_offer {s : State} {e : Fin 64} {en : Entry} {o : Offer} (hreset : s.inReset = false)
    (h : s.dispatch.sending = some (.offer (some e) o)) (he : s.entries[e] = some en) :
    exec .frameSent s
      = .next ({ s with dispatch := { s.dispatch with sending := none } }.setEntry e (some en.markSent)) :=
  (exec_frameSent hreset h).trans (congrArg Host.Outcome.next (State.sent_offer (s := { s with dispatch := { s.dispatch with sending := none } }) he o))

/-- A frame that is no entry's OFFER marks nothing. -/
theorem State.sent_other {s : State} {x : TxFrame} (h : ∀ e o, x ≠ .offer (some e) o) : s.sent x = s := by
  cases x with
  | offer owner o =>
    cases owner with
    | none => rfl
    | some e => exact absurd rfl (h e o)
  | _ => rfl

theorem State.setEntry_same {s : State} {e : Fin 64} {en : Entry} (he : s.entries[e] = some en) :
    s.setEntry e (some en) = s := by
  have hset : s.entries.set e (some en) = s.entries := by
    rw [← he]
    exact Vector.set_getElem_self e.isLt
  rw [State.setEntry, hset]

theorem exec_linkCheckTimer_idle {s : State} (h : s.dispatch.checkTimer ≠ some 0) : exec .linkCheckTimer s = .next s := by
  change execLinkCheckTimer s = _
  rw [execLinkCheckTimer, if_pos (.inr h)]

theorem exec_linkCheckTimer_due {s : State} (hreset : s.inReset = false) (h : s.dispatch.checkTimer = some 0) :
    exec .linkCheckTimer s
      = .next { s with
          dispatch := { s.dispatch with
            checkTimer := some 1000
            queue := if .linkCheck ∈ s.dispatch.queue then s.dispatch.queue else s.dispatch.queue ++ [.linkCheck] } } := by
  change execLinkCheckTimer s = _
  rw [execLinkCheckTimer, if_neg (by rw [hreset, h]; decide), DispatchLink.queueLinkCheck_eq]
  rfl

/-- Settles O49: the head of the queue, the frame sent and the timer, each row in its cases. -/
theorem framesLeaveInOrder : Obligations.FramesLeaveInOrder := by
  intro s hreset
  refine ⟨exec_frameTransmit_idle, fun x rest hfree hqueue => exec_frameTransmit_head hreset hfree hqueue,
    exec_frameSent_idle, fun x hsending => ⟨?offered, ?kept, ?other⟩, fun h => ?stopped, fun m hm => ?timer⟩
  case offered =>
    rintro e o en tag d y rfl he hst
    rw [exec_frameSent_offer hreset hsending he, Entry.markSent_offered hst]
    rfl
  case kept =>
    rintro e o rfl hno
    cases he : s.entries[e] with
    | none =>
      rw [exec_frameSent hreset hsending]
      simp only [State.sent, he]
    | some en =>
      rw [exec_frameSent_offer hreset hsending he, Entry.markSent_other fun tag d y => hno en tag d y he]
      exact congrArg Host.Outcome.next (State.setEntry_same he)
  case other =>
    intro hother
    rw [exec_frameSent hreset hsending, State.sent_other hother]
  case stopped => exact exec_linkCheckTimer_idle (by rw [h]; exact nofun)
  case timer =>
    by_cases h : m = 0
    · subst h
      exact exec_linkCheckTimer_due hreset hm
    · rw [if_pos h]
      exact exec_linkCheckTimer_idle (by rw [hm]; exact fun hz => h (Option.some.inj hz))

end Sys2Proof.Machine

/-! ## The searches of the store commands, GET, DROP and READ SLOT (R19, R22 to R24, R150) -/

namespace Sys2Proof.Machine

section SearchPhase
variable {s : State} {c : StoreCommand} {k : Key} {b : Bucket} {p : Phase} {act : State → Way → Record → State}
  {absent : State → State}

theorem State.searchPhase_found {w : Way} {r : Record} (h : s.store.search b k = some (w, r)) :
    s.searchPhase c k b p act absent = act s w r := by
  simp only [State.searchPhase, h]

theorem State.searchPhase_absent (h : s.store.search b k = none) :
    s.searchPhase c k b p act absent = if p = .first then s.phaseQueued k.alternate c .second else absent s := by
  simp only [State.searchPhase, h, State.nextPhase_eq]

end SearchPhase

theorem tripReport_eq (s : State) (k : Key) : tripReport (s.tripOf k) = s.tripBytes k := by
  unfold State.tripBytes
  cases s.tripOf k <;> rfl

theorem State.dropAbsent_eq (s : State) (k : Key) :
    s.dropAbsent k = { s with trips := s.trips.filter fun t => t.key != k }.ended .notFound (s.tripBytes k) := by
  rw [State.dropAbsent, State.finish_eq, tripReport_eq]
  rfl

/-- A phase whose bucket does not hold the key: the alternate bucket is next, and after it the command ends (R22, R150). -/
theorem State.upkeepTurn_absent {s : State} {b : Bucket} {p : Phase} {k : Key} {c : StoreCommand}
    (hc : c = .get k ∨ c = .drop k ∨ (∃ a, c = .setState k a) ∨ ∃ m, c = .replenish k m)
    (h : s.store.search b k = none) :
    s.upkeepTurn { bucket := b, command := c, phase := p }
      = if p = .first then s.phaseQueued k.alternate c .second
        else if c = .drop k then { s with trips := s.trips.filter fun t => t.key != k }.ended .notFound (s.tripBytes k)
        else s.ended .notFound [] := by
  have hnotFound : s.notFound = s.ended .notFound [] := State.finishPlain_eq s .notFound
  rcases hc with rfl | rfl | ⟨a, rfl⟩ | ⟨m, rfl⟩
  · rw [if_neg (show ¬ StoreCommand.get k = .drop k from nofun), ← hnotFound]
    exact State.searchPhase_absent h
  · rw [if_pos rfl, ← State.dropAbsent_eq]
    exact State.searchPhase_absent h
  · rw [if_neg (show ¬ StoreCommand.setState k a = .drop k from nofun), ← hnotFound]
    exact State.searchPhase_absent h
  · rw [if_neg (show ¬ StoreCommand.replenish k m = .drop k from nofun), ← hnotFound]
    exact State.searchPhase_absent h

/-- DROP of a key that is found: the way is freed, the trip removed and reported (R19, R150). -/
theorem State.dropFound_eq (s : State) (k : Key) (b : Bucket) (w : Way) (r : Record) :
    s.dropFound k b w r
      = { s.ended .ok (be 2 b ++ [byte1 w] ++ s.tripBytes k) with
          store := s.store.release b w, trips := s.trips.filter fun t => t.key != k } := by
  rw [State.dropFound, State.finish_eq, tripReport_eq]
  rfl

theorem State.readSlotTurn_eq (s : State) (b : Bucket) (w : Way) :
    s.readSlotTurn b w
      = s.ended .ok
          (match s.store.slot b w with
           | some r => be 2 b ++ [byte1 w] ++ r.form
           | none => be 2 b ++ [byte1 w, 0]) := by
  rw [State.readSlotTurn, State.finish_eq]
  rfl

/-! ### The record form -/

theorem padded_four (l : List Byte) : padded 4 l = (l ++ [0, 0, 0, 0]).take 4 := rfl

/-- Presence flags as the offsets' weights (R193). -/
theorem Record.flags_eq (r : Record) :
    r.flags
      = byte1 ((if r.defaultFloor.isSome then 1 else 0) + (if r.validFrom.isSome then 2 else 0)
          + (if r.validUntil.isSome then 4 else 0) + (if r.budget.isSome then 8 else 0) + (if r.assist then 16 else 0)
          + (if r.lastUse.isSome then 32 else 0)) := by
  have hflag (b : Bool) (n : Nat) : n * b.toNat = if b = true then n else 0 := by cases b <;> simp
  have hone (b : Bool) : b.toNat = if b = true then 1 else 0 := by cases b <;> rfl
  rw [Record.flags, hflag, hflag, hflag, hflag, hflag, hone]

/-- The bytes of a last use, 0 throughout where it is absent (R194). -/
theorem lastUse_bytes (u : Option LastUse) :
    (match u with
      | some u => byte1 u.floor :: be 5 u.second
      | none => List.replicate 6 0)
      = [byte1 ((u.map LastUse.floor).getD 0)] ++ be 5 ((u.map LastUse.second).getD 0) := by
  cases u <;> rfl

theorem Record.form_eq (r : Record) : r.form = r.bytes := by
  have hstate : byte1 r.state.code
      = (match r.state with
         | .active => 1
         | .suspended => 2
         | .spent => 3
         | .lapsed => 4 : Byte) := by
    cases r.state <;> rfl
  have hholder : byte1 r.holder.code
      = (match r.holder with
         | .staff => 0
         | .visitor => 1
         | .contractor => 2
         | .service => 3 : Byte) := by
    cases r.holder <;> rfl
  unfold Record.form Record.bytes keyBytes
  rw [hstate, hholder, Record.flags_eq, padded_four, padded_four]
  exact (congrArg₂ (· ++ ·) rfl (lastUse_bytes r.lastUse)).trans (List.append_assoc _ _ _).symm

theorem Record.form_length (r : Record) : r.form.length = 40 := by
  have hlastUse : ([byte1 ((r.lastUse.map LastUse.floor).getD 0)]
      ++ be 5 ((r.lastUse.map LastUse.second).getD 0)).length = 6 := by simp
  rw [← lastUse_bytes] at hlastUse
  simp only [Record.form, keyBytes, List.length_append, be_length, List.length_cons, List.length_nil, padded_length]
  exact congrArg (34 + ·) hlastUse

/-- Settles O17: a phase that finds nothing, the finds of GET and DROP, READ SLOT and the record form. -/
theorem searchPhasesFindOrEnd : Obligations.SearchPhasesFindOrEnd := by
  intro s n b p k u noTrip
  refine ⟨fun c hc hserves habsent => ?absent, fun w r hserves hfound => ?get, fun w r hkept hserves hfound => ?drop,
    fun w hserves => ?readSlot, fun r => ⟨r.form_eq, r.form_length⟩⟩
  case absent =>
    rw [exec_bankTurn_upkeep hserves]
    exact congrArg _ (State.upkeepTurn_absent hc habsent)
  case get =>
    have hexec : exec (.bankTurn n) s = .next (u.getFound b w r) :=
      (exec_bankTurn_upkeep hserves).trans (congrArg _ (State.searchPhase_found hfound))
    rw [hexec, State.getFound, State.finish_eq]
    rfl
  case drop =>
    have hslot := (Store.search_some hfound).1
    refine ⟨u.dropFound k b w r, ?_, ?_⟩
    · rw [exec_bankTurn_upkeep hserves]
      exact congrArg _ (State.searchPhase_found hfound)
    · rw [State.dropFound_eq]
      exact ⟨Store.slot_release hkept.1 b w, s.store.sameBut_release b w, Store.occupancy_release hkept hslot, rfl, rfl⟩
  case readSlot =>
    rw [exec_bankTurn_upkeep hserves]
    exact congrArg _ (State.readSlotTurn_eq u b w)

end Sys2Proof.Machine

/-! ## What SET STATE and REPLENISH write (R20, R21) -/

namespace Sys2Proof.Machine

/-- A maintenance write into an occupied slot that takes an edition and ends its command (R9, R12). -/
theorem State.rewritesAndEnds (u : State) (b : Bucket) (w : Way) (r : Record) (code : ResultCode) (bytes : List Byte) :
    u.RewritesAndEnds b w r ((u.store.edition + 1) % 65536) code bytes
      ({ u with store := u.store.takeEdition.write b w r }.finish code bytes) := by
  refine ⟨Table.get_put_self _ _ _, fun _ _ h => Store.slot_write_other _ _ h, rfl, rfl, ?_⟩
  rw [State.finish_eq]
  rfl

theorem Record.lapses_of {r : Record} {now x : Nat} (hx : r.validUntil = some x) (hle : x ≤ now) : r.lapses now = true :=
  (r.lapses_iff now).2 ⟨x, hx, hle⟩

theorem Record.lapses_false {r : Record} {now : Nat} (h : ¬ r.LapseHolds now) : r.lapses now = false :=
  Bool.eq_false_iff.2 fun hl => h ((r.lapses_iff now).1 hl)

/-! ### SET STATE -/

/-- The state a SET STATE names. -/
def namedState (active : Bool) : RecordState := if active then .active else .suspended

section SetState
variable {r : Record} {active : Bool} {now : Nat} (hst : r.state = .active ∨ r.state = .suspended)
include hst

theorem Record.setStateWrite_lapses (h : r.lapses now = true) : r.setStateWrite active now = some r.lapse := by
  rcases hst with hst | hst <;> cases active <;> simp [Record.setStateWrite, hst, h]

theorem Record.setStateWrite_named (h : r.lapses now = false) (hn : r.state = namedState active) :
    r.setStateWrite active now = none := by
  rcases hst with hst | hst <;> cases active <;> simp [namedState, hst] at hn <;> simp [Record.setStateWrite, hst, h]

theorem Record.setStateWrite_other (h : r.lapses now = false) (hn : r.state ≠ namedState active) :
    r.setStateWrite active now = some { r with state := namedState active, since := now } := by
  rcases hst with hst | hst <;> cases active <;> simp [namedState, hst] at hn <;>
    simp [Record.setStateWrite, namedState, hst, h]

end SetState

theorem State.setStateFound_wrong {u : State} {active : Bool} {b : Bucket} {w : Way} {r : Record}
    (h : r.state = .spent ∨ r.state = .lapsed) : u.setStateFound active b w r = u.ended .wrongState [] := by
  rw [State.setStateFound, if_pos h, State.finishPlain_eq]

/-- A SET STATE that the record's state does not refuse: what it writes, or the record as it stands (R20). -/
theorem State.setStateFound_eq {u : State} {active : Bool} {b : Bucket} {w : Way} {r : Record}
    (h : r.state = .active ∨ r.state = .suspended) :
    u.setStateFound active b w r
      = match r.setStateWrite active u.now with
        | none => u.ended .ok (writtenBytes b w r.edition r.state)
        | some r1 =>
          { u with
            store := u.store.takeEdition.write b w { r1 with edition := nextEdition u.store.edition } }.finish
            (if r.lapses u.now then .okLapsed else .ok)
            (writtenForm b w { r1 with edition := nextEdition u.store.edition }) := by
  rw [State.setStateFound, if_neg (by rcases h with h | h <;> rw [h] <;> decide)]
  cases r.setStateWrite active u.now with
  | none => simp only [State.finish_eq, writtenForm_eq]
  | some r1 => simp only

/-! ### REPLENISH -/

section Replenish
variable {r : Record} {count : Option Nat} {now : Nat}

theorem Record.replenishWrite_lapsed (h : r.state = .lapsed) : r.replenishWrite count now = none := by
  simp [Record.replenishWrite, h]

theorem Record.replenishWrite_lapses (hst : r.state ≠ .lapsed) (h : r.lapses now = true) :
    r.replenishWrite count now = some ({ r with budget := count } : Record).lapse := by
  cases hs : r.state with
  | lapsed => exact absurd hs hst
  | _ => simp [Record.replenishWrite, hs, h]

theorem Record.replenishWrite_spent (hst : r.state = .spent) (h : r.lapses now = false) :
    r.replenishWrite count now = some { r with state := .active, since := now, budget := count } := by
  simp [Record.replenishWrite, hst, h]

theorem Record.replenishWrite_kept (hlapsed : r.state ≠ .lapsed) (hspent : r.state ≠ .spent) (h : r.lapses now = false) :
    r.replenishWrite count now = some { r with budget := count } := by
  cases hs : r.state with
  | lapsed => exact absurd hs hlapsed
  | spent => exact absurd hs hspent
  | _ => simp [Record.replenishWrite, hs, h]

end Replenish

theorem State.replenishFound_eq (u : State) (count : Option Nat) (b : Bucket) (w : Way) (r : Record) :
    u.replenishFound count b w r
      = match r.replenishWrite count u.now with
        | none => u.ended .wrongState []
        | some r1 =>
          { u with
            store := u.store.takeEdition.write b w { r1 with edition := nextEdition u.store.edition } }.finish
            (if r.lapses u.now then .okLapsed else .ok)
            (replenishedForm b w { r1 with edition := nextEdition u.store.edition }) := by
  rw [State.replenishFound]
  cases r.replenishWrite count u.now with
  | none => simp only [State.finishPlain_eq]
  | some r1 => simp only

/-- Settles O18: the record each command writes, by the state found and the lapse condition, and the write itself. -/
theorem setStateAndReplenishWrite : Obligations.SetStateAndReplenishWrite := by
  intro s n b p k w r hfound u now edition
  refine ⟨fun active hserves => ?setState, fun count hserves => ?replenish⟩
  case setState =>
    intro named
    have hexec : exec (.bankTurn n) s = .next (u.setStateFound active b w r) :=
      (exec_bankTurn_upkeep hserves).trans (congrArg _ (State.searchPhase_found hfound))
    refine ⟨fun hst => ?_, fun hst => ⟨fun x hx hle => ?_, fun hlapse hn => ?_, fun hlapse hn => ?_⟩⟩
    · rw [hexec, State.setStateFound_wrong hst]
    · have hl : r.lapses u.now = true := Record.lapses_of hx hle
      refine ⟨_, hexec, ?_⟩
      rw [State.setStateFound_eq hst, Record.setStateWrite_lapses hst hl, Record.lapse_eq hx, if_pos hl]
      exact State.rewritesAndEnds u b w _ _ _
    · have hl : r.lapses u.now = false := Record.lapses_false hlapse
      rw [hexec, State.setStateFound_eq hst, Record.setStateWrite_named hst hl hn]
    · have hl : r.lapses u.now = false := Record.lapses_false hlapse
      refine ⟨_, hexec, ?_⟩
      rw [State.setStateFound_eq hst, Record.setStateWrite_other hst hl hn, hl]
      exact State.rewritesAndEnds u b w _ _ _
  case replenish =>
    intro bytes
    have hexec : exec (.bankTurn n) s = .next (u.replenishFound count b w r) :=
      (exec_bankTurn_upkeep hserves).trans (congrArg _ (State.searchPhase_found hfound))
    refine ⟨fun hst => ?_, fun hst => ⟨fun x hx hle => ?_, fun hlapse hspent => ?_, fun hlapse hspent => ?_⟩⟩
    · rw [hexec, State.replenishFound_eq, Record.replenishWrite_lapsed hst]
    · have hl : r.lapses u.now = true := Record.lapses_of hx hle
      refine ⟨_, hexec, ?_⟩
      rw [State.replenishFound_eq, Record.replenishWrite_lapses hst hl, Record.lapse_eq (r := { r with budget := count }) hx,
        if_pos hl]
      exact State.rewritesAndEnds u b w _ _ _
    · have hl : r.lapses u.now = false := Record.lapses_false hlapse
      refine ⟨_, hexec, ?_⟩
      rw [State.replenishFound_eq, Record.replenishWrite_spent hspent hl, hl]
      exact State.rewritesAndEnds u b w _ _ _
    · have hl : r.lapses u.now = false := Record.lapses_false hlapse
      refine ⟨_, hexec, ?_⟩
      rw [State.replenishFound_eq, Record.replenishWrite_kept hst hspent hl, hl]
      exact State.rewritesAndEnds u b w _ _ _

end Sys2Proof.Machine

/-! ## The turns of probes and reversals (R83, R84, R86, R93, R94, R100, R138, R139) -/

namespace Sys2Proof.Machine

/-! ### A probe that does not find its key -/

theorem State.answerAndFree_plain (u : State) (e : Fin 64) (en : Entry) (c : ReplyCode) :
    u.answerAndFree e en (.plain c) = u.answered e en c := by
  obtain ⟨links, hpost⟩ := u.post_frame e en (.plain c)
  rw [State.answerAndFree_eq, State.answered, hpost]

theorem exec_probe {s : State} {n : Fin 4} {b : Bucket} {e : Fin 64} {en : Entry}
    (hserves : s.servesLookup n { bucket := b, entry := e, kind := .probe }) (he : s.entries[e] = some en) :
    exec (.bankTurn n) s = .next ((s.turned n .lookup).probeTurn e en b) := by
  have he' : (s.turned n .lookup).entries[e] = some en := he
  rw [exec_bankTurn_lookup hserves, State.lookupTurn, he']

section Absent
variable {u : State} {e : Fin 64} {en : Entry} {b : Bucket} (h : u.store.search b en.key = none)
include h

theorem State.probeTurn_home (hst : en.state = .probeHome) (hemg : u.emg = false) :
    u.probeTurn e en b
      = (u.setEntry e (some { en with state := .probeAlt })).queueLookup
          { bucket := en.key.alternate, entry := e, kind := .probe } := by
  simp only [State.probeTurn, h, if_pos hst, hemg, Bool.false_eq_true, if_false]

theorem State.probeTurn_home_emergency (hst : en.state = .probeHome) (hemg : u.emg = true) :
    u.probeTurn e en b = u.answered e en .holdEmergency := by
  simp only [State.probeTurn, h, if_pos hst, hemg, if_true, State.answerAndFree_plain]

theorem State.probeTurn_alternate (hst : en.state = .probeAlt) : u.probeTurn e en b = u.answered e en .denyUnknown := by
  have hhome : en.state ≠ .probeHome := by rw [hst]; exact nofun
  simp only [State.probeTurn, h, if_neg hhome, State.answerAndFree_plain]

end Absent

/-- Settles O19: the three outcomes of a probe without its key. -/
theorem probeWithoutTheKey : Obligations.ProbeWithoutTheKey := by
  intro s n b e en hserves he habsent u alt
  refine ⟨fun hst hemg => ?_, fun hst hemg => ?_, fun hst => ?_⟩
  · rw [exec_probe hserves he]
    exact congrArg _ (State.probeTurn_home (u := u) habsent hst hemg)
  · rw [exec_probe hserves he]
    exact congrArg _ (State.probeTurn_home_emergency (u := u) habsent hst hemg)
  · rw [exec_probe hserves he]
    exact congrArg _ (State.probeTurn_alternate (u := u) habsent hst)

/-! ### The deciding turn -/

/-- The entry as the finding turn holds it (R83). -/
def Entry.finding (en : Entry) (b : Bucket) (w : Way) (r : Record) : Entry :=
  { en with found := some { bucket := b, way := w, edition := r.edition } }

/-- What was found plays no part in an answer, and neither does the store. -/
theorem State.answered_finding (u : State) (st : Store) (e : Fin 64) (en : Entry) (b : Bucket) (w : Way) (r : Record)
    (c : ReplyCode) :
    { u with store := st }.answered e (en.finding b w r) c = { u.answered e en c with store := st } := by
  have hlinks : (({ u with store := st } : State).post e (en.finding b w r) (.plain c)).links = (u.post e en (.plain c)).links := by
    have hdrop : ({ u with store := st } : State).drop (en.finding b w r).link (en.finding b w r).drop
        = u.drop en.link en.drop := rfl
    unfold State.post
    rw [hdrop]
    cases (u.drop en.link en.drop).transaction with
    | none => rfl
    | some tr =>
      by_cases h : tr.entry = some e
      · simp only [if_pos h]; rfl
      · simp only [if_neg h]
  simp only [State.answered, hlinks]

theorem State.probeTurn_found {u : State} {e : Fin 64} {en : Entry} {b : Bucket} {w : Way} {r : Record}
    (h : u.store.search b en.key = some (w, r)) : u.probeTurn e en b = u.takeDecision e en b w r := by
  simp only [State.probeTurn, h]

section Decision
variable {u : State} {e : Fin 64} {en : Entry} {b : Bucket} {w : Way} {r : Record}

theorem State.takeDecision_answer {c : ReplyCode} (h : u.decision en r = .answer c) :
    u.takeDecision e en b w r = u.answered e en c := by
  have h' : u.decision (en.finding b w r) r = .answer c := h
  unfold State.takeDecision
  simp only [Entry.finding] at h'
  simp only [h', State.answerAndFree_plain]
  exact State.answered_finding u u.store e en b w r c

theorem State.takeDecision_lapse (h : u.decision en r = .lapse) :
    u.takeDecision e en b w r = { u.answered e en .denyLapsed with store := u.store.write b w r.lapse } := by
  have h' : u.decision (en.finding b w r) r = .lapse := h
  unfold State.takeDecision
  simp only [Entry.finding] at h'
  simp only [h', State.answerAndFree_plain]
  exact State.answered_finding u _ e en b w r .denyLapsed

theorem State.takeDecision_grant {route : Route} {cont : Bool} (h : u.decision en r = .grant route cont) :
    u.takeDecision e en b w r
      = { u with store := u.store.write b w (r.writeBack cont en.origin u.now u.nowSecond) }.makeOffer e
          (en.finding b w r) r route cont := by
  have h' : u.decision (en.finding b w r) r = .grant route cont := h
  unfold State.takeDecision
  simp only [Entry.finding] at h'
  simp only [h']
  rfl

end Decision

/-! ### The write-back -/

section WriteBack
variable {r : Record} {cont : Bool} {origin now second : Nat}

theorem Record.writeBack_lastUse :
    (r.writeBack cont origin now second).lastUse = some { floor := origin, second := second } := rfl

/-- A unit of budget is taken, and the record is SPENT at 0 (R93). -/
theorem Record.writeBack_taken {m : Nat} (htaken : (!cont && r.budget.isSome) = true) (hm : r.budget = some m) :
    (r.writeBack cont origin now second).budget = some (m - 1)
      ∧ (m = 1 → (r.writeBack cont origin now second).state = .spent ∧ (r.writeBack cont origin now second).since = now)
      ∧ (2 ≤ m → (r.writeBack cont origin now second).state = r.state
          ∧ (r.writeBack cont origin now second).since = r.since) := by
  have hcont : cont = false := by
    cases cont with
    | false => rfl
    | true => cases htaken
  subst hcont
  by_cases hzero : m - 1 = 0
  · simp only [Record.writeBack, hm, if_pos hzero]
    exact ⟨trivial, fun _ => ⟨trivial, trivial⟩, fun h => by omega⟩
  · simp only [Record.writeBack, hm, if_neg hzero]
    exact ⟨trivial, fun h => by omega, fun _ => ⟨trivial, trivial⟩⟩

theorem Record.writeBack_kept (htaken : (!cont && r.budget.isSome) = false) :
    (r.writeBack cont origin now second).budget = r.budget ∧ (r.writeBack cont origin now second).state = r.state
      ∧ (r.writeBack cont origin now second).since = r.since := by
  cases hb : r.budget with
  | none => simp [Record.writeBack, hb]
  | some m =>
    cases cont with
    | true => simp [Record.writeBack, hb]
    | false => rw [hb] at htaken; cases htaken

theorem Record.writeBack_frame :
    r.writeBack cont origin now second
      = { r with
          lastUse := (r.writeBack cont origin now second).lastUse
          budget := (r.writeBack cont origin now second).budget
          state := (r.writeBack cont origin now second).state
          since := (r.writeBack cont origin now second).since } := by
  unfold Record.writeBack
  cases r.budget with
  | none => rfl
  | some m =>
    cases cont with
    | true => rfl
    | false => by_cases h : m - 1 = 0 <;> simp only [h, if_true, if_false]

end WriteBack

/-- Settles O21: the answer, the lapse and the offer, each with the one slot written. -/
theorem decidingTurnAnswersOrOffers : Obligations.DecidingTurnAnswersOrOffers := by
  intro s n b e en w r hserves he hfound u
  have hexec : exec (.bankTurn n) s = .next (u.takeDecision e en b w r) :=
    (exec_probe hserves he).trans (congrArg _ (State.probeTurn_found (u := u) hfound))
  refine ⟨fun c hd => ?answer, fun hd => ?lapse, fun route cont hd => ?grant⟩
  case answer => rw [hexec, State.takeDecision_answer (u := u) hd]
  case lapse =>
    obtain ⟨-, hlapses⟩ := State.decision_eq_lapse hd
    obtain ⟨x, hx, -⟩ := (r.lapses_iff _).1 hlapses
    refine ⟨_, x, hexec, hx, ?_⟩
    rw [State.takeDecision_lapse (u := u) hd, ← Record.lapse_eq hx]
    exact ⟨Table.get_put_self _ _ _, fun _ _ h => Store.slot_write_other _ _ h, rfl, rfl, rfl⟩
  case grant =>
    refine ⟨_, r.writeBack cont en.origin s.now s.nowSecond, hexec, Record.writeBack_lastUse, fun m htaken hm => ?_, fun htaken => ?_,
      Record.writeBack_frame, ?_⟩
    · exact Record.writeBack_taken htaken hm
    · exact Record.writeBack_kept htaken
    · rw [State.takeDecision_grant (u := u) hd]
      exact ⟨Table.get_put_self _ _ _, fun _ _ h => Store.slot_write_other _ _ h, rfl, rfl, rfl⟩

/-! ### The reversal -/

theorem exec_reversal {s : State} {n : Fin 4} {b : Bucket} {e : Fin 64} {en : Entry}
    (hserves : s.servesLookup n { bucket := b, entry := e, kind := .reversal }) (he : s.entries[e] = some en) :
    exec (.bankTurn n) s = .next ((s.turned n .lookup).reversalTurn e en) := by
  have he' : (s.turned n .lookup).entries[e] = some en := he
  rw [exec_bankTurn_lookup hserves, State.lookupTurn, he']

section Reverse
variable {st : Store} {en : Entry} {f : Found} {g : Grant} {now : Nat} (hf : en.found = some f) (hg : en.grant = some g)
include hf hg

/-- Nothing is written where the found way is FREE or holds another key or edition (R100). -/
theorem Store.reverse_lost (h : ∀ r, st.slot f.bucket f.way = some r → ¬ (r.key = en.key ∧ r.edition = f.edition)) :
    st.reverse en now = st := by
  simp only [Store.reverse, hf, hg]
  cases hslot : st.slot f.bucket f.way with
  | none => rfl
  | some r => exact if_neg (h r hslot)

theorem Store.reverse_found {r : Record} (hslot : st.slot f.bucket f.way = some r) (hkey : r.key = en.key)
    (hedition : r.edition = f.edition) : st.reverse en now = st.write f.bucket f.way (r.reversed g now) := by
  simp only [Store.reverse, hf, hg, hslot]
  exact if_pos ⟨hkey, hedition⟩

end Reverse

/-- A record with the unit of budget given back, its last use as it was (R100). -/
def Record.givenBack (r : Record) (taken : Bool) (now : Nat) : Record :=
  match r.budget, taken with
  | some b, true =>
    if r.state = .spent then { r with budget := some (min 255 (b + 1)), state := .active, since := now }
    else { r with budget := some (min 255 (b + 1)) }
  | _, _ => r

section Reversed
variable {r : Record} {g : Grant} {taken : Bool} {now m : Nat}

theorem Record.givenBack_spent (htaken : taken = true) (hm : r.budget = some m) (hspent : r.state = .spent) :
    r.givenBack taken now = { r with budget := some (min 255 (m + 1)), state := .active, since := now } := by
  simp only [Record.givenBack, htaken, hm, if_pos hspent]

theorem Record.givenBack_unspent (htaken : taken = true) (hm : r.budget = some m) (hspent : r.state ≠ .spent) :
    r.givenBack taken now = { r with budget := some (min 255 (m + 1)) } := by
  simp only [Record.givenBack, htaken, hm, if_neg hspent]

theorem Record.givenBack_none (h : taken = false ∨ r.budget = none) : r.givenBack taken now = r := by
  unfold Record.givenBack
  split
  next hb => exact absurd hb (h.resolve_left nofun ▸ nofun)
  next => rfl

/-- The three ways of the budget: given back to a SPENT record, to another, or not at all. -/
theorem Record.givenBack_cases (r : Record) (taken : Bool) (now : Nat) :
    (∃ m, r.givenBack taken now = { r with budget := some (min 255 (m + 1)), state := .active, since := now })
      ∨ (∃ m, r.givenBack taken now = { r with budget := some (min 255 (m + 1)) }) ∨ r.givenBack taken now = r := by
  cases hb : r.budget with
  | none => exact .inr (.inr (Record.givenBack_none (.inr hb)))
  | some m =>
    cases htaken : taken with
    | false => exact .inr (.inr (Record.givenBack_none (.inl rfl)))
    | true =>
      by_cases hspent : r.state = .spent
      · exact .inl ⟨m, Record.givenBack_spent rfl hb hspent⟩
      · exact .inr (.inl ⟨m, Record.givenBack_unspent rfl hb hspent⟩)

/-- A reversal gives back the budget and, where it still stands, the last use (R100). -/
theorem Record.reversed_eq (r : Record) (g : Grant) (now : Nat) :
    r.reversed g now
      = { r.givenBack g.budgetTaken now with
          lastUse := if r.lastUse = some g.useWritten then g.previous else r.lastUse } := by
  have hlastUse : (r.givenBack g.budgetTaken now).lastUse = r.lastUse := by
    rcases r.givenBack_cases g.budgetTaken now with ⟨m, h⟩ | ⟨m, h⟩ | h <;> rw [h]
  by_cases huse : r.lastUse = some g.useWritten
  · rw [if_pos huse]
    exact if_pos huse
  · rw [if_neg huse, ← hlastUse]
    exact if_neg huse

/-- A unit of budget is given back, held at 255, and a SPENT record is ACTIVE again (R100). -/
theorem Record.reversed_given (htaken : g.budgetTaken = true) (hm : r.budget = some m) :
    (r.reversed g now).budget = some (min 255 (m + 1))
      ∧ (r.state = .spent → (r.reversed g now).state = .active ∧ (r.reversed g now).since = now)
      ∧ (r.state ≠ .spent → (r.reversed g now).state = r.state ∧ (r.reversed g now).since = r.since) := by
  rw [Record.reversed_eq]
  by_cases hspent : r.state = .spent
  · rw [Record.givenBack_spent htaken hm hspent]
    exact ⟨rfl, fun _ => ⟨rfl, rfl⟩, fun h => absurd hspent h⟩
  · rw [Record.givenBack_unspent htaken hm hspent]
    exact ⟨rfl, fun h => absurd h hspent, fun _ => ⟨rfl, rfl⟩⟩

theorem Record.reversed_kept (h : g.budgetTaken = false ∨ r.budget = none) :
    (r.reversed g now).budget = r.budget ∧ (r.reversed g now).state = r.state ∧ (r.reversed g now).since = r.since := by
  rw [Record.reversed_eq, Record.givenBack_none h]
  exact ⟨rfl, rfl, rfl⟩

theorem Record.reversed_lastUse :
    (r.reversed g now).lastUse = if r.lastUse = some g.useWritten then g.previous else r.lastUse := by
  rw [Record.reversed_eq]

theorem Record.reversed_frame :
    r.reversed g now
      = { r with
          budget := (r.reversed g now).budget, state := (r.reversed g now).state, since := (r.reversed g now).since
          lastUse := (r.reversed g now).lastUse } := by
  rw [Record.reversed_eq]
  rcases r.givenBack_cases g.budgetTaken now with ⟨m, h⟩ | ⟨m, h⟩ | h <;> rw [h]

end Reversed

/-- Settles O25: what the found way holds decides what is written; the entry is freed either way. -/
theorem reversalGivesBack : Obligations.ReversalGivesBack := by
  intro s n b e en f g hserves he hf hg u
  refine ⟨fun hlost => ?lost, fun r hslot hkey hedition => ?found⟩
  case lost =>
    have hreverse : u.store.reverse en u.now = u.store := Store.reverse_lost hf hg hlost
    rw [exec_reversal hserves he, State.reversalTurn, hreverse]
    rfl
  case found =>
    have hreverse : u.store.reverse en u.now = u.store.write f.bucket f.way (r.reversed g u.now) :=
      Store.reverse_found hf hg hslot hkey hedition
    refine ⟨_, r.reversed g u.now, exec_reversal hserves he, ?_⟩
    rw [State.reversalTurn, hreverse]
    exact ⟨Table.get_put_self _ _ _, fun _ _ h => Store.slot_write_other _ _ h, rfl, rfl,
      fun m => Record.reversed_given, Record.reversed_kept, Record.reversed_lastUse, Record.reversed_frame, rfl⟩

end Sys2Proof.Machine

/-! ## The steps of the decision (R86 to R92, R153, R154) -/

namespace Sys2Proof.Machine

/-! ### What the steps ask -/

/-- Step 1 passes: the record is ACTIVE and within its validity (R86). -/
def Record.Stands (r : Record) (now : Nat) : Prop := r.state = .active ∧ r.Within now

/-- Step 2 passes: the building admits the record's class (R87). -/
def State.Admitted (s : State) (r : Record) : Prop :=
  s.settings.mode = .normal ∨ s.settings.admitSet.getLsbD r.holder.code = true

/-- The request continues the key's open trip to its final floor `f` (R88, R153). -/
def State.Continues (s : State) (en : Entry) (f : Nat) : Prop :=
  en.kind = .arrival ∧ ∃ t, s.tripOf en.key = some t ∧ t.transfer = en.origin ∧ t.finalFloor = f

/-- The request begins a new journey to floor `f` (R88). -/
def State.Goes (s : State) (en : Entry) (r : Record) (f : Nat) : Prop :=
  (en.kind = .destination ∧ en.requested = some f)
    ∨ (en.kind = .arrival ∧ (∀ t, s.tripOf en.key = some t → t.transfer ≠ en.origin)
        ∧ r.defaultFloor = some f ∧ f ≠ en.origin)

/-- Step 4's closure of a floor to a record (R89). -/
def State.Closed (s : State) (r : Record) (f : Nat) : Prop := f ∈ s.settings.closures ∧ r.holder ≠ .service

/-- Step 5's passback (R90). -/
def State.Back (s : State) (en : Entry) (r : Record) : Prop :=
  ∃ x, r.lastUse = some x ∧ x.floor = en.origin ∧ x.second ≤ s.clock.siteSecond
    ∧ s.clock.siteSecond - x.second < s.lobbies[en.lobby].window

/-- A new journey that passes steps 4 and 5 (R89, R90). -/
def State.Entitled (s : State) (en : Entry) (r : Record) (f : Nat) : Prop :=
  s.Goes en r f ∧ ¬ s.Closed r f ∧ f ∈ s.effectiveFloors r ∧ ¬ s.Back en r

/-! ### Step 1 -/

theorem Record.within_iff (r : Record) (now : Nat) :
    r.Within now ↔ ¬ r.LapseHolds now ∧ ∀ a, r.validFrom = some a → a ≤ now := by
  unfold Record.Within Record.LapseHolds
  constructor
  · rintro ⟨hfrom, huntil⟩
    exact ⟨fun ⟨u, hu, hle⟩ => absurd (huntil u hu) (not_lt.2 hle), hfrom⟩
  · rintro ⟨hlapse, hfrom⟩
    exact ⟨hfrom, fun u hu => not_le.1 fun hle => hlapse ⟨u, hu, hle⟩⟩

/-- Step 1 of an ACTIVE record: the lapse, the validity's beginning, or it passes (R86). -/
theorem Record.standing_active {r : Record} (h : r.state = .active) (now : Nat) :
    (r.LapseHolds now ∧ r.standing now = some .lapse)
      ∨ (¬ r.LapseHolds now ∧ (∃ a, r.validFrom = some a ∧ now < a) ∧ r.standing now = some (.answer .denyNotYet))
      ∨ (r.Within now ∧ r.standing now = none) := by
  by_cases hl : r.lapses now = true
  · exact .inl ⟨(r.lapses_iff now).1 hl, by simp [Record.standing, h, hl]⟩
  · have hnl : ¬ r.LapseHolds now := fun hc => hl ((r.lapses_iff now).2 hc)
    rw [Record.within_iff]
    cases hv : r.validFrom with
    | none => exact .inr (.inr ⟨⟨hnl, nofun⟩, by simp [Record.standing, h, hl, hv]⟩)
    | some a =>
      by_cases ha : now < a
      · exact .inr (.inl ⟨hnl, ⟨a, rfl, ha⟩, by simp [Record.standing, h, hl, hv, ha]⟩)
      · refine .inr (.inr ⟨⟨hnl, fun x hx => ?_⟩, by simp [Record.standing, h, hl, hv, ha]⟩)
        obtain rfl := Option.some.inj hx
        exact not_lt.1 ha

theorem Record.standing_eq_none {r : Record} {now : Nat} : r.standing now = none ↔ r.Stands now := by
  constructor
  · intro h
    have hactive := Record.active_of_standing_none h
    rcases Record.standing_active hactive now with ⟨-, hc⟩ | ⟨-, -, hc⟩ | ⟨hw, -⟩
    · rw [h] at hc; cases hc
    · rw [h] at hc; cases hc
    · exact ⟨hactive, hw⟩
  · rintro ⟨hactive, hwithin⟩
    rcases Record.standing_active hactive now with ⟨hc, -⟩ | ⟨-, ⟨a, ha, hlt⟩, -⟩ | ⟨-, h⟩
    · exact absurd hc ((r.within_iff now).1 hwithin).1
    · exact absurd (hwithin.1 a ha) (not_le.2 hlt)
    · exact h

theorem Record.standing_ne_grant {r : Record} {now : Nat} {route : Route} {cont : Bool} :
    r.standing now ≠ some (.grant route cont) := by
  intro h
  cases hst : r.state with
  | active =>
    rcases Record.standing_active hst now with ⟨-, hc⟩ | ⟨-, -, hc⟩ | ⟨-, hc⟩ <;> rw [h] at hc <;> cases hc
  | _ => simp [Record.standing, hst] at h

/-- The replies of step 1, each with its reason (R86). -/
theorem Record.standing_eq_answer {r : Record} {now : Nat} {c : ReplyCode} :
    r.standing now = some (.answer c)
      ↔ (c = .denySuspended ∧ r.state = .suspended) ∨ (c = .denySpent ∧ r.state = .spent)
        ∨ (c = .denyLapsed ∧ r.state = .lapsed)
        ∨ (c = .denyNotYet ∧ r.state = .active ∧ ¬ r.LapseHolds now ∧ ∃ a, r.validFrom = some a ∧ now < a) := by
  cases hst : r.state with
  | active =>
    rcases Record.standing_active hst now with ⟨hl, h⟩ | ⟨hl, hv, h⟩ | ⟨hw, h⟩
    · simp [h, hl]
    · simp [h, hl, hv, eq_comm]
    · have hno : ¬ ∃ a, r.validFrom = some a ∧ now < a := fun ⟨a, ha, hlt⟩ => absurd (hw.1 a ha) (not_le.2 hlt)
      simp [h, hno]
  | suspended => simp [Record.standing, hst, eq_comm]
  | spent => simp [Record.standing, hst, eq_comm]
  | lapsed => simp [Record.standing, hst, eq_comm]

/-! ### Steps 2 and 3 -/

theorem State.restricted_iff (s : State) (r : Record) :
    (s.settings.mode = .restrict ∧ (!s.settings.admits r.holder) = true) ↔ ¬ s.Admitted r := by
  unfold State.Admitted Settings.admits
  cases s.settings.mode <;> simp

/-- Step 3 by the request's kind and the key's open trip (R88, R153). -/
theorem State.settleFloor_eq (s : State) (en : Entry) (r : Record) (f : Nat) :
    (s.settleFloor en r = some (f, true) ↔ s.Continues en f) ∧ (s.settleFloor en r = some (f, false) ↔ s.Goes en r f) := by
  unfold State.settleFloor State.Continues State.Goes
  cases hk : en.kind with
  | destination => simp
  | arrival =>
    cases ht : s.tripOf en.key with
    | none => simp [and_assoc]
    | some t =>
      by_cases horigin : t.transfer = en.origin
      · simp [horigin]
      · simp [horigin, and_assoc]

theorem State.settleFloor_eq_none {s : State} {en : Entry} {r : Record} :
    s.settleFloor en r = none ↔ ∀ f, ¬ s.Continues en f ∧ ¬ s.Goes en r f := by
  simp only [← (s.settleFloor_eq en r _).1, ← (s.settleFloor_eq en r _).2]
  cases s.settleFloor en r with
  | none => simp
  | some x =>
    obtain ⟨f, cont⟩ := x
    refine ⟨nofun, fun h => ?_⟩
    cases cont with
    | true => exact absurd rfl (h f).1
    | false => exact absurd rfl (h f).2

/-! ### Steps 4 to 7 -/

theorem State.passback_iff (s : State) (en : Entry) (r : Record) :
    r.passback s.lobbies[en.lobby].window en.origin s.nowSecond = true ↔ s.Back en r := by
  unfold Record.passback State.Back
  cases r.lastUse with
  | none => simp
  | some u =>
    simp only [Bool.and_eq_true, beq_iff_eq, decide_eq_true_eq, and_assoc, Option.some.injEq, exists_eq_left']
    rfl

theorem State.entitlement_eq_answer {s : State} {en : Entry} {r : Record} {f : Nat} {c : ReplyCode} :
    s.entitlement en r f = some c
      ↔ (c = .denyClosed ∧ s.Closed r f) ∨ (c = .denyFloor ∧ ¬ s.Closed r f ∧ f ∉ s.effectiveFloors r)
        ∨ (c = .denyPassback ∧ ¬ s.Closed r f ∧ f ∈ s.effectiveFloors r ∧ s.Back en r) := by
  have hclosed : (s.settings.closures.contains f = true ∧ r.holder ≠ .service) ↔ s.Closed r f := by
    rw [List.contains_iff_mem]; rfl
  unfold State.entitlement
  by_cases h1 : s.Closed r f
  · rw [if_pos (hclosed.2 h1)]
    simp [h1, eq_comm]
  · rw [if_neg fun hc => h1 (hclosed.1 hc)]
    by_cases h2 : f ∈ s.effectiveFloors r
    · have hcontains : ¬ (!(s.effectiveFloors r).contains f) = true := by simpa using h2
      rw [if_neg hcontains]
      by_cases h3 : s.Back en r
      · rw [if_pos ((s.passback_iff en r).2 h3)]
        simp [h1, h2, h3, eq_comm]
      · rw [if_neg fun hc => h3 ((s.passback_iff en r).1 hc)]
        simp [h1, h2, h3]
    · have hcontains : (!(s.effectiveFloors r).contains f) = true := by simpa using h2
      rw [if_pos hcontains]
      simp [h1, h2, eq_comm]

theorem State.entitlement_eq_none {s : State} {en : Entry} {r : Record} {f : Nat} :
    s.entitlement en r f = none ↔ ¬ s.Closed r f ∧ f ∈ s.effectiveFloors r ∧ ¬ s.Back en r := by
  rw [Option.eq_none_iff_forall_ne_some]
  simp only [ne_eq, State.entitlement_eq_answer]
  constructor
  · intro h
    have hclosed : ¬ s.Closed r f := fun hc => h .denyClosed (.inl ⟨rfl, hc⟩)
    have hfloor : f ∈ s.effectiveFloors r := by
      by_contra hc
      exact h .denyFloor (.inr (.inl ⟨rfl, hclosed, hc⟩))
    exact ⟨hclosed, hfloor, fun hc => h .denyPassback (.inr (.inr ⟨rfl, hclosed, hfloor, hc⟩))⟩
  · rintro ⟨hclosed, hfloor, hback⟩ c (⟨-, h⟩ | ⟨-, -, h⟩ | ⟨-, -, -, h⟩)
    · exact hclosed h
    · exact h hfloor
    · exact hback h

/-- Steps 6 and 7: the route's outcome, and the link's where there is a route (R91, R92). -/
theorem State.routeStep_eq_answer {s : State} {en : Entry} {f : Nat} {cont : Bool} {c : ReplyCode} :
    s.routeStep en f cont = .answer c
      ↔ s.live.route s.dispatch.groups en.origin f = .error c
        ∨ (c = .holdNoAnswer ∧ s.dispatch.state = .silent
            ∧ ∃ route, s.live.route s.dispatch.groups en.origin f = .ok route) := by
  unfold State.routeStep
  cases s.live.route s.dispatch.groups en.origin f with
  | error c' => simp
  | ok route => by_cases h : s.dispatch.state = .silent <;> simp [h, eq_comm]

theorem State.routeStep_eq_grant {s : State} {en : Entry} {f : Nat} {cont cont' : Bool} {route : Route} :
    s.routeStep en f cont = .grant route cont'
      ↔ s.live.route s.dispatch.groups en.origin f = .ok route ∧ s.dispatch.state = .active ∧ cont = cont' := by
  unfold State.routeStep
  cases s.live.route s.dispatch.groups en.origin f with
  | error c' => simp
  | ok route' => cases h : s.dispatch.state <;> simp

/-- The replies that no route can give come of no route. -/
theorem FloorMap.route_error {m : FloorMap} {groups : Vector GroupState 12} {o f : Nat} {c : ReplyCode}
    (h : m.route groups o f = .error c) : c = .denyNoRoute ∨ c = .holdRecall ∨ c = .holdUnavailable := by
  have hleg {x : GroupState} {r : Route} (h : legByState x r = .error c) :
      c = .denyNoRoute ∨ c = .holdRecall ∨ c = .holdUnavailable := by
    cases x with
    | inService => cases h
    | outOfService => exact .inr (.inr (Except.error.inj h).symm)
    | _ => exact .inr (.inl (Except.error.inj h).symm)
  unfold FloorMap.route FloorMap.sameZoneRoute FloorMap.crossZoneRoute at h
  repeat' split at h
  all_goals first
    | exact hleg h
    | cases h <;> simp

/-! ### The whole decision -/

/-- The decision, step by step. -/
theorem State.decision_eq_iff (s : State) (en : Entry) (r : Record) (v : Verdict) :
    s.decision en r = v
      ↔ r.standing s.now = some v
        ∨ (r.Stands s.now
            ∧ ((¬ s.Admitted r ∧ v = .answer .denyRestricted)
              ∨ (s.Admitted r
                ∧ ((s.settleFloor en r = none ∧ v = .answer .needFloor)
                  ∨ (∃ f, s.Continues en f ∧ s.routeStep en f true = v)
                  ∨ ∃ f, s.Goes en r f
                    ∧ ((∃ c, s.entitlement en r f = some c ∧ v = .answer c)
                      ∨ (s.entitlement en r f = none ∧ s.routeStep en f false = v)))))) := by
  unfold State.decision
  rw [← Record.standing_eq_none]
  cases hstanding : r.standing s.now with
  | some v' => simp
  | none =>
    simp only [reduceCtorEq, false_or, true_and]
    by_cases hadmitted : s.Admitted r
    · rw [if_neg fun hr => (s.restricted_iff r).1 hr hadmitted]
      simp only [hadmitted, not_true_eq_false, false_and, false_or, true_and, ← (s.settleFloor_eq en r _).1,
        ← (s.settleFloor_eq en r _).2]
      cases s.settleFloor en r with
      | none => simp only [true_and, reduceCtorEq, false_and, exists_false, or_false]; exact eq_comm
      | some x =>
        obtain ⟨f, cont⟩ := x
        cases cont with
        | true => simp
        | false =>
          simp only [reduceCtorEq, false_and, false_or, Option.some.injEq, Prod.mk.injEq, Bool.false_eq_true, and_false,
            exists_false, and_true, exists_eq_left']
          cases s.entitlement en r f with
          | none => simp
          | some c => simp only [Option.some.injEq, exists_eq_left', reduceCtorEq, false_and, or_false]; exact eq_comm
    · rw [if_pos ((s.restricted_iff r).2 hadmitted)]
      simp only [hadmitted, not_false_eq_true, true_and, false_and, or_false]
      exact eq_comm

/-- Where each reply of the decision comes from. -/
theorem State.decision_eq_answer {s : State} {en : Entry} {r : Record} {c : ReplyCode} :
    s.decision en r = .answer c
      ↔ r.standing s.now = some (.answer c)
        ∨ (r.Stands s.now
            ∧ ((¬ s.Admitted r ∧ c = .denyRestricted)
              ∨ (s.Admitted r
                ∧ (((∀ f, ¬ s.Continues en f ∧ ¬ s.Goes en r f) ∧ c = .needFloor)
                  ∨ (∃ f, s.Goes en r f ∧ s.entitlement en r f = some c)
                  ∨ ∃ f, (s.Continues en f ∨ s.Entitled en r f)
                    ∧ (s.live.route s.dispatch.groups en.origin f = .error c
                      ∨ (c = .holdNoAnswer ∧ s.dispatch.state = .silent
                          ∧ ∃ route, s.live.route s.dispatch.groups en.origin f = .ok route)))))) := by
  rw [State.decision_eq_iff]
  simp only [Verdict.answer.injEq, State.settleFloor_eq_none, State.routeStep_eq_answer, exists_eq_right']
  refine or_congr_right (and_congr_right fun _ => or_congr_right (and_congr_right fun _ => or_congr_right ?_))
  constructor
  · rintro (⟨f, hf, h⟩ | ⟨f, hf, he | ⟨he, h⟩⟩)
    · exact .inr ⟨f, .inl hf, h⟩
    · exact .inl ⟨f, hf, he⟩
    · exact .inr ⟨f, .inr ⟨hf, State.entitlement_eq_none.1 he⟩, h⟩
  · rintro (⟨f, hf, he⟩ | ⟨f, hf | ⟨hf, he⟩, h⟩)
    · exact .inr ⟨f, hf, .inl he⟩
    · exact .inl ⟨f, hf, h⟩
    · exact .inr ⟨f, hf, .inr ⟨State.entitlement_eq_none.2 he, h⟩⟩

theorem State.decision_eq_grant {s : State} {en : Entry} {r : Record} {route : Route} {cont : Bool} :
    s.decision en r = .grant route cont
      ↔ r.Stands s.now ∧ s.Admitted r ∧ s.dispatch.state = .active
        ∧ ∃ f, s.live.route s.dispatch.groups en.origin f = .ok route
          ∧ if cont then s.Continues en f else s.Entitled en r f := by
  rw [State.decision_eq_iff]
  simp only [Record.standing_ne_grant, reduceCtorEq, and_false, exists_false, false_or, State.routeStep_eq_grant,
    State.entitlement_eq_none]
  refine and_congr_right fun _ => and_congr_right fun _ => ?_
  constructor
  · rintro (⟨f, hf, hroute, hactive, rfl⟩ | ⟨f, hf, he, hroute, hactive, rfl⟩)
    · exact ⟨hactive, f, hroute, hf⟩
    · exact ⟨hactive, f, hroute, hf, he⟩
  · rintro ⟨hactive, f, hroute, hf⟩
    cases cont with
    | true => exact .inl ⟨f, hf, hroute, hactive, rfl⟩
    | false => exact .inr ⟨f, hf.1, hf.2, hroute, hactive, rfl⟩

theorem State.decision_eq_lapse_iff {s : State} {en : Entry} {r : Record} :
    s.decision en r = .lapse ↔ r.state = .active ∧ r.LapseHolds s.now := by
  rw [← Record.lapses_iff]
  refine ⟨State.decision_eq_lapse, fun h => ?_⟩
  rw [State.decision_eq_iff, Record.standing_eq_lapse]
  exact .inl h

/-- A reply of no route and no link comes from the steps before them. -/
theorem State.decision_eq_early {s : State} {en : Entry} {r : Record} {c : ReplyCode}
    (h : c ≠ .denyNoRoute ∧ c ≠ .holdRecall ∧ c ≠ .holdUnavailable ∧ c ≠ .holdNoAnswer) :
    s.decision en r = .answer c
      ↔ r.standing s.now = some (.answer c)
        ∨ (r.Stands s.now
            ∧ ((¬ s.Admitted r ∧ c = .denyRestricted)
              ∨ (s.Admitted r
                ∧ (((∀ f, ¬ s.Continues en f ∧ ¬ s.Goes en r f) ∧ c = .needFloor)
                  ∨ ∃ f, s.Goes en r f ∧ s.entitlement en r f = some c)))) := by
  obtain ⟨hroute, hrecall, hunavailable, hanswer⟩ := h
  rw [State.decision_eq_answer]
  refine or_congr_right (and_congr_right fun _ => or_congr_right (and_congr_right fun _ => or_congr_right ?_))
  refine or_iff_left ?_
  rintro ⟨f, -, herror | ⟨hc, -⟩⟩
  · rcases FloorMap.route_error herror with rfl | rfl | rfl
    · exact hroute rfl
    · exact hrecall rfl
    · exact hunavailable rfl
  · exact hanswer hc

/-- The replies of step 1 are the decision's exactly where step 1 gives them (R86). -/
theorem State.decision_eq_standing {s : State} {en : Entry} {r : Record} {c : ReplyCode}
    (hc : c = .denySuspended ∨ c = .denySpent ∨ c = .denyLapsed ∨ c = .denyNotYet) :
    s.decision en r = .answer c ↔ r.standing s.now = some (.answer c) := by
  rw [State.decision_eq_early (by rcases hc with rfl | rfl | rfl | rfl <;> decide)]
  refine or_iff_left ?_
  simp only [State.entitlement_eq_answer]
  rcases hc with rfl | rfl | rfl | rfl <;> simp

/-- The replies of steps 4 and 5 are a new journey's that reaches them (R89, R90). -/
theorem State.decision_eq_entitlement {s : State} {en : Entry} {r : Record} {c : ReplyCode}
    (hc : c = .denyClosed ∨ c = .denyFloor ∨ c = .denyPassback) :
    s.decision en r = .answer c
      ↔ r.Stands s.now ∧ s.Admitted r ∧ ∃ f, s.Goes en r f ∧ s.entitlement en r f = some c := by
  rw [State.decision_eq_early (by rcases hc with rfl | rfl | rfl <;> decide), Record.standing_eq_answer]
  rcases hc with rfl | rfl | rfl <;> simp

/-- The replies of the route are the decision's where the steps before it pass (R91). -/
theorem State.decision_eq_route {s : State} {en : Entry} {r : Record} {c : ReplyCode}
    (hc : c = .denyNoRoute ∨ c = .holdRecall ∨ c = .holdUnavailable) :
    s.decision en r = .answer c
      ↔ r.Stands s.now ∧ s.Admitted r
        ∧ ∃ f, (s.Continues en f ∨ s.Entitled en r f) ∧ s.live.route s.dispatch.groups en.origin f = .error c := by
  rw [State.decision_eq_answer, Record.standing_eq_answer]
  simp only [State.entitlement_eq_answer]
  rcases hc with rfl | rfl | rfl <;> simp

/-- Settles O20: each outcome by the step that gives it. -/
theorem decisionStepsInOrder : Obligations.DecisionStepsInOrder := by
  intro s en r admitted first continues goes closed back entitled
  refine ⟨fun route cont => State.decision_eq_grant, ?suspended, ?spent, ?lapsed, State.decision_eq_lapse_iff, ?notYet,
    ?restricted, ?needFloor, ?closed, ?floor, ?passback, fun c hc => State.decision_eq_route hc, ?noAnswer⟩
  case suspended => rw [State.decision_eq_standing (by decide), Record.standing_eq_answer]; simp
  case spent => rw [State.decision_eq_standing (by decide), Record.standing_eq_answer]; simp
  case lapsed => rw [State.decision_eq_standing (by decide), Record.standing_eq_answer]; simp
  case notYet => rw [State.decision_eq_standing (by decide), Record.standing_eq_answer]; simp [State.now]
  case restricted =>
    rw [State.decision_eq_early (by decide), Record.standing_eq_answer]
    simp only [State.entitlement_eq_answer, reduceCtorEq, false_and, and_false, false_or, or_false, exists_false, and_true]
    rfl
  case needFloor =>
    rw [State.decision_eq_early (by decide), Record.standing_eq_answer]
    simp only [State.entitlement_eq_answer, reduceCtorEq, false_and, and_false, false_or, or_false, exists_false, and_true]
    rfl
  case closed =>
    rw [State.decision_eq_entitlement (by decide)]
    simp only [State.entitlement_eq_answer, reduceCtorEq, false_and, or_false, true_and]
    rfl
  case floor =>
    rw [State.decision_eq_entitlement (by decide)]
    simp only [State.entitlement_eq_answer, reduceCtorEq, false_and, or_false, false_or, true_and]
    rfl
  case passback =>
    rw [State.decision_eq_entitlement (by decide)]
    simp only [State.entitlement_eq_answer, reduceCtorEq, false_and, false_or, true_and]
    refine and_congr_right fun _ => and_congr_right fun _ => ?_
    constructor
    · rintro ⟨f, hgoes, hopen, hfloor, hback⟩; exact ⟨hback, f, hgoes, hopen, hfloor⟩
    · rintro ⟨hback, f, hgoes, hopen, hfloor⟩; exact ⟨f, hgoes, hopen, hfloor, hback⟩
  case noAnswer =>
    have hno (f : Nat) : s.live.route s.dispatch.groups en.origin f ≠ .error .holdNoAnswer := fun h => by
      rcases FloorMap.route_error h with h | h | h <;> cases h
    rw [State.decision_eq_answer, Record.standing_eq_answer]
    simp only [State.entitlement_eq_answer, hno, reduceCtorEq, false_and, and_false, false_or, exists_false, true_and]
    refine and_congr_right fun _ => and_congr_right fun _ => ?_
    constructor
    · rintro ⟨f, hf, hsilent, route, hroute⟩; exact ⟨hsilent, f, route, hf, hroute⟩
    · rintro ⟨hsilent, f, route, hf, hroute⟩; exact ⟨f, hf, hsilent, route, hroute⟩

end Sys2Proof.Machine

/-! ## The taking of the store commands (R13, R14, R180) -/

namespace Sys2Proof.Machine

/-! ### A store command by its reader -/

/-- A store command that passes its check, on the state after the taking: WORKING, the release of R180, the first phase. -/
theorem State.startWork_taken (s : State) (fell : Fall) (n : Nat) (c : StoreCommand) :
    (s.taken fell n).startWork (s.attention.live &&& Source.commandDone.mask) c
      = ({ s.taken fell n with
            port := { (s.taken fell n).port with engine := .working }
            attention := { (s.taken fell n).attention with
              release :=
                if s.attention.mode = AttnMode.pulse ∧ s.attention.pending &&& s.attention.enables &&& 64#8 ≠ 0
                    ∧ (s.taken fell n).attention.pending &&& (s.taken fell n).attention.enables ≠ 0 then 2
                else (s.taken fell n).attention.release } } : State).phaseQueued c.firstBucket c .first := by
  have hpulse : (s.taken fell n).attention.pulse (s.attention.live &&& Source.commandDone.mask)
      = { (s.taken fell n).attention with
          release :=
            if s.attention.mode = AttnMode.pulse ∧ s.attention.pending &&& s.attention.enables &&& 64#8 ≠ 0
                ∧ (s.taken fell n).attention.pending &&& (s.taken fell n).attention.enables ≠ 0 then 2
            else (s.taken fell n).attention.release } := by
    rw [Source.mask_commandDone]
    by_cases h : s.attention.mode = AttnMode.pulse ∧ s.attention.pending &&& s.attention.enables &&& 64#8 ≠ 0
        ∧ (s.taken fell n).attention.pending &&& (s.taken fell n).attention.enables ≠ 0
    · rw [if_pos h]; exact if_pos h
    · rw [if_neg h]; exact if_neg h
  rw [State.startWork, hpulse]
  rfl

/-- A store command queues its first phase where its reader reads exactly the frames that valid values write. -/
theorem queuesPhase_of_read {α : Type} {make : Fall → List Byte → Instr} {write : α → List Byte} {valid : α → Prop}
    {command : α → StoreCommand} {bucket : α → Bucket} (read : List Byte → Option StoreCommand)
    (hread : ∀ args c, read args = some c ↔ ∃ v, valid v ∧ args = write v ∧ command v = c)
    (hexec : ∀ fell args s, exec (make fell args) s = s.storeCommand fell args (read args))
    (hbucket : ∀ v, (command v).firstBucket = bucket v) : QueuesPhase make write valid command bucket := by
  intro fell s hs
  refine ⟨fun v hv => ?_, fun args hargs => ?_⟩
  · rw [hexec, State.storeCommand, State.command_ready hs, (hread _ _).2 ⟨v, hv, rfl, rfl⟩]
    exact congrArg _ ((State.startWork_taken s fell _ _).trans (by rw [hbucket]))
  · have hnone : read args = none := Option.eq_none_iff_forall_ne_some.2 fun c hc =>
      have ⟨v, hv, hwritten, _⟩ := (hread args c).1 hc
      hargs v hv hwritten
    rw [hexec, State.storeCommand, State.command_ready hs, hnone, State.finishPlain_eq]

/-! ### Keys and the readers of the searches -/

theorem Key.valid_iff (k : Key) : k.valid = true ↔ Args.keyFits k := by
  simp only [Key.valid, Bool.and_eq_true, decide_eq_true_eq]
  rfl

theorem key_length (k : Key) : (Args.key k).length = 5 := by simp [Args.key]

/-- A number's bytes, of the number's length, are the bytes that write it. -/
theorem num_eq_iff {l : List Byte} {n v : Nat} (hl : l.length = n) (hv : v < 256 ^ n) : num l = v ↔ l = be n v :=
  ⟨fun h => by rw [← h, be_num_of_length hl], fun h => by rw [h, num_be hv]⟩

/-- Five bytes are one key (R192). -/
theorem readKey_iff {l : List Byte} (hl : l.length = 5) (rest : List Byte) (k : Key) (hk : Args.keyFits k) :
    readKey (l ++ rest) 0 = k ↔ l = Args.key k := by
  match l, hl with
  | [s1, s0, c2, c1, c0], _ =>
    change ({ site := num [s1, s0], card := num [c2, c1, c0] } : Key) = k ↔ [s1, s0] ++ [c2, c1, c0] = _
    obtain ⟨site, card⟩ := k
    obtain ⟨hsite, hcard⟩ := hk
    dsimp only at hsite hcard
    rw [Key.mk.injEq, Args.key, num_eq_iff (n := 2) rfl (by omega), num_eq_iff (n := 3) rfl (by omega)]
    exact ⟨fun ⟨h1, h2⟩ => by rw [h1, h2], fun h => List.append_inj h (by rw [be_length]; rfl)⟩

/-- The key at the front of a frame is read exactly where it fits. -/
theorem readValidKey_iff {l : List Byte} (hl : l.length = 5) (rest : List Byte) (k : Key) :
    readValidKey (l ++ rest) 0 = some k ↔ Args.keyFits k ∧ l = Args.key k := by
  rw [readValidKey, Option.ite_none_right_eq_some, Option.some.injEq, Key.valid_iff]
  constructor
  · rintro ⟨hfits, rfl⟩
    exact ⟨hfits, (readKey_iff hl rest _ hfits).1 rfl⟩
  · rintro ⟨hfits, hkey⟩
    have h := (readKey_iff hl rest k hfits).2 hkey
    exact ⟨h ▸ hfits, h⟩

/-- A frame of at least five bytes is a key's bytes and the rest. -/
theorem exists_key_append {args : List Byte} {n : Nat} (h : args.length = 5 + n) :
    ∃ l rest, args = l ++ rest ∧ l.length = 5 ∧ rest.length = n :=
  ⟨args.take 5, args.drop 5, (List.take_append_drop 5 args).symm, by rw [List.length_take]; omega, by
    rw [List.length_drop]; omega⟩

/-- A command that is a key and nothing else. -/
theorem readKeyCommand_iff (f : Key → StoreCommand) (args : List Byte) (c : StoreCommand) :
    (if args.length = 5 then (readValidKey args 0).map f else none) = some c
      ↔ ∃ k, Args.keyFits k ∧ args = Args.key k ∧ f k = c := by
  rw [Option.ite_none_right_eq_some, Option.map_eq_some_iff]
  constructor
  · rintro ⟨hlen, k, hkey, rfl⟩
    rw [← List.append_nil args, readValidKey_iff hlen] at hkey
    exact ⟨k, hkey.1, hkey.2, rfl⟩
  · rintro ⟨k, hfits, rfl, rfl⟩
    refine ⟨key_length k, k, ?_, rfl⟩
    rw [← List.append_nil (Args.key k), readValidKey_iff (key_length k)]
    exact ⟨hfits, rfl⟩

theorem readGet_iff (args : List Byte) (c : StoreCommand) :
    readGet args = some c ↔ ∃ k, Args.keyFits k ∧ args = Args.key k ∧ .get k = c := by
  rw [readGet]
  exact readKeyCommand_iff .get args c

theorem readDrop_iff (args : List Byte) (c : StoreCommand) :
    readDrop args = some c ↔ ∃ k, Args.keyFits k ∧ args = Args.key k ∧ .drop k = c := by
  rw [readDrop]
  exact readKeyCommand_iff .drop args c

/-! ### SET STATE, REPLENISH and READ SLOT -/

/-- A frame of a key and `n` more bytes, read from its front. -/
theorem length_eq_and_readValidKey_iff {n : Nat} (args : List Byte) (k : Key) :
    args.length = 5 + n ∧ readValidKey args 0 = some k
      ↔ ∃ rest, rest.length = n ∧ Args.keyFits k ∧ args = Args.key k ++ rest := by
  constructor
  · rintro ⟨hlen, hkey⟩
    obtain ⟨l, rest, rfl, hl, hrest⟩ := exists_key_append hlen
    obtain ⟨hfits, rfl⟩ := (readValidKey_iff hl rest k).1 hkey
    exact ⟨rest, hrest, hfits, rfl⟩
  · rintro ⟨rest, rfl, hfits, rfl⟩
    exact ⟨by rw [List.length_append, key_length], (readValidKey_iff (key_length k) rest k).2 ⟨hfits, rfl⟩⟩

theorem byteAt_key_append (k : Key) (l : List Byte) (i : Nat) : byteAt (Args.key k ++ l) (5 + i) = byteAt l i := by
  rw [byteAt, byteAt, List.getD_append_right _ _ _ _ (by rw [key_length]; omega), key_length, Nat.add_sub_cancel_left]

theorem readSetState_iff (args : List Byte) (c : StoreCommand) :
    readSetState args = some c ↔ ∃ v : Key × Bool, Args.keyFits v.1 ∧ args = Args.setState v ∧ .setState v.1 v.2 = c := by
  constructor
  · intro h
    rw [readSetState, Option.ite_none_right_eq_some] at h
    obtain ⟨hlen, h⟩ := h
    split at h
    · next k st hkey hstate =>
      obtain ⟨rest, hrest, hfits, rfl⟩ := (length_eq_and_readValidKey_iff (n := 1) args k).1 ⟨hlen, hkey⟩
      obtain ⟨x, rfl⟩ := List.length_eq_one_iff.1 hrest
      rw [byteAt_key_append k [x] 0, readLiveState_iff] at hstate
      refine ⟨(k, st == .active), hfits, ?_, Option.some.inj h⟩
      obtain ⟨rfl, hx⟩ | ⟨rfl, hx⟩ := hstate <;> exact congrArg (Args.key k ++ [·]) hx
    · cases h
  · rintro ⟨⟨k, active⟩, hfits, rfl, rfl⟩
    obtain ⟨hlen, hkey⟩ := (length_eq_and_readValidKey_iff (n := 1) _ k).2
      ⟨[if active then 1 else 2], rfl, hfits, rfl⟩
    have hstate : readLiveState (byteAt (Args.key k ++ [if active then 1 else 2]) 5)
        = some (if active then .active else .suspended) := by
      rw [byteAt_key_append k _ 0]
      cases active <;> rfl
    change readSetState (Args.key k ++ [if active then 1 else 2]) = _
    rw [readSetState, if_pos hlen, hkey, hstate]
    cases active <;> rfl

theorem readReplenish_iff (args : List Byte) (c : StoreCommand) :
    readReplenish args = some c
      ↔ ∃ v : Key × Args.Budget, (Args.keyFits v.1 ∧ ∀ n, v.2 = .count n → 1 ≤ n ∧ n ≤ 255)
        ∧ args = Args.replenish v ∧ .replenish v.1 v.2.given = c := by
  constructor
  · intro h
    rw [readReplenish, Option.ite_none_right_eq_some] at h
    obtain ⟨hlen, h⟩ := h
    have hbytes (k : Key) (hkey : readValidKey args 0 = some k) :
        ∃ x y, Args.keyFits k ∧ args = Args.key k ++ [x, y] ∧ byteAt args 5 = x ∧ numAt args 6 = y.toNat := by
      obtain ⟨rest, hrest, hfits, rfl⟩ := (length_eq_and_readValidKey_iff (n := 2) args k).1 ⟨hlen, hkey⟩
      obtain ⟨x, y, rfl⟩ := List.length_eq_two.1 hrest
      exact ⟨x, y, hfits, rfl, byteAt_key_append k [x, y] 0,
        congrArg BitVec.toNat (byteAt_key_append k [x, y] 1)⟩
    split at h
    · next k hkey hyes =>
      obtain ⟨x, y, hfits, hargs, hx, -⟩ := hbytes k hkey
      rw [hx, readYesNo_iff] at hyes
      exact ⟨(k, .unlimited y), ⟨hfits, fun n hn => by cases hn⟩, hargs.trans (by rw [hyes]; rfl), Option.some.inj h⟩
    · next k hkey hyes =>
      obtain ⟨x, y, hfits, hargs, hx, hy⟩ := hbytes k hkey
      rw [hx, readYesNo_iff] at hyes
      rw [hy, Option.ite_none_left_eq_some] at h
      refine ⟨(k, .count y.toNat), ⟨hfits, fun n hn => ?_⟩, ?_, Option.some.inj h.2⟩
      · cases hn
        exact ⟨Nat.one_le_iff_ne_zero.2 h.1, Nat.le_of_lt_succ y.isLt⟩
      · change args = Args.key k ++ [1, byte1 y.toNat]
        rw [hargs, hyes, byte1_of_toNat]
        rfl
    · cases h
  · rintro ⟨⟨k, budget⟩, ⟨hfits, hcount⟩, rfl, rfl⟩
    cases budget with
    | unlimited y =>
      obtain ⟨hlen, hkey⟩ := (length_eq_and_readValidKey_iff (n := 2) _ k).2 ⟨[0, y], rfl, hfits, rfl⟩
      have hx : byteAt (Args.key k ++ [0, y]) 5 = 0 := byteAt_key_append k [0, y] 0
      change readReplenish (Args.key k ++ [0, y]) = _
      rw [readReplenish, if_pos hlen, hkey, hx]
      rfl
    | count n =>
      obtain ⟨h1, h2⟩ := hcount n rfl
      obtain ⟨hlen, hkey⟩ := (length_eq_and_readValidKey_iff (n := 2) _ k).2 ⟨[1, byte1 n], rfl, hfits, rfl⟩
      have hx : byteAt (Args.key k ++ [1, byte1 n]) 5 = 1 := byteAt_key_append k [1, byte1 n] 0
      have hn : numAt (Args.key k ++ [1, byte1 n]) 6 = n :=
        (congrArg BitVec.toNat (byteAt_key_append k [1, byte1 n] 1)).trans (byte1_toNat (Nat.lt_succ_of_le h2))
      change readReplenish (Args.key k ++ [1, byte1 n]) = _
      rw [readReplenish, if_pos hlen, hkey, hx, hn]
      exact if_neg (Nat.one_le_iff_ne_zero.1 h1)

theorem readReadSlot_iff (args : List Byte) (c : StoreCommand) :
    readReadSlot args = some c
      ↔ ∃ v : Bucket × Way, True ∧ args = Args.slot v ∧ .readSlot v.1 v.2 = c := by
  constructor
  · intro h
    rw [readReadSlot, Option.ite_none_right_eq_some] at h
    obtain ⟨hlen, h⟩ := h
    split_ifs at h with hb hw
    obtain ⟨x, y, z, rfl⟩ := List.length_eq_three.1 hlen
    exact ⟨(⟨num [x, y], hb⟩, ⟨z.toNat, hw⟩), trivial, by
      rw [Args.slot, be_two_num, byte1_of_toNat]; rfl, Option.some.inj h⟩
  · rintro ⟨⟨b, w⟩, -, rfl, rfl⟩
    have hbucket : field (Args.slot (b, w)) 0 2 = b := num_be (n := 2) (by omega)
    have hway : numAt (Args.slot (b, w)) 2 = w := byte1_toNat (by omega)
    have hlen : (Args.slot (b, w)).length = 3 := rfl
    rw [readReadSlot, if_pos hlen]
    simp only [hbucket, hway, b.isLt, w.isLt, dite_true]

end Sys2Proof.Machine

/-! ## PUT CREDENTIAL's form (R14, R193, R194) -/

namespace Sys2Proof.Machine

/-! ### The checks of R14 -/

theorem optAll_iff (o : Option Nat) (p : Nat → Bool) : optAll o p = true ↔ ∀ n, o = some n → p n = true := by
  cases o <;> simp [optAll]

/-- The form's checks are those on the decoded values, with a budget of one byte. -/
theorem Credential.fits_iff (c : Credential) :
    Args.CredentialFits c ↔ c.valid = true ∧ ∀ n, c.budget = some n → n ≤ 255 := by
  have hfloor (n : Nat) : n < Config.floors ↔ n ≤ 159 := Nat.lt_succ_iff
  simp only [Credential.valid, Bool.and_eq_true, Bool.or_eq_true, beq_iff_eq, decide_eq_true_eq, List.all_eq_true,
    optAll_iff, Key.valid_iff, hfloor]
  constructor
  · rintro ⟨hsite, hcard, hstate, ⟨hone, hfour, hdistinct⟩, ⟨hcount, hnodup, hfloors⟩, hdefault, hfrom, huntil, hbounds, hbudget⟩
    exact ⟨⟨⟨⟨⟨⟨⟨⟨⟨⟨⟨⟨⟨⟨hsite, hcard⟩, hstate⟩, hone⟩, hfour⟩, hdistinct⟩, hcount⟩, hnodup⟩, hfloors⟩, hdefault⟩, hfrom⟩,
      huntil⟩, fun a ha b hb => hbounds a b ha hb⟩, fun n hn => (hbudget n hn).1⟩, fun n hn => (hbudget n hn).2⟩
  · rintro ⟨⟨⟨⟨⟨⟨⟨⟨⟨⟨⟨⟨⟨⟨hsite, hcard⟩, hstate⟩, hone⟩, hfour⟩, hdistinct⟩, hcount⟩, hnodup⟩, hfloors⟩, hdefault⟩, hfrom⟩,
      huntil⟩, hbounds⟩, hpositive⟩, hbyte⟩
    exact ⟨hsite, hcard, hstate, ⟨hone, hfour, hdistinct⟩, ⟨hcount, hnodup, hfloors⟩, hdefault, hfrom, huntil,
      fun a b ha hb => hbounds a ha b hb, fun n hn => ⟨hpositive n hn, hbyte n hn⟩⟩

/-! ### The presence byte and the fields it stands for -/

/-- The byte of five flags, the three above them 0. -/
theorem flags_iff (b : Byte) (x0 x1 x2 x3 x4 : Bool) :
    b = byte1 (x0.toNat + 2 * x1.toNat + 4 * x2.toNat + 8 * x3.toNat + 16 * x4.toNat)
      ↔ (b.getLsbD 5 || b.getLsbD 6 || b.getLsbD 7) = false ∧ b.getLsbD 0 = x0 ∧ b.getLsbD 1 = x1 ∧ b.getLsbD 2 = x2
        ∧ b.getLsbD 3 = x3 ∧ b.getLsbD 4 = x4 := by
  constructor
  · rintro rfl
    revert x0 x1 x2 x3 x4
    decide
  · have hbyte : ∀ b : Byte, (b.getLsbD 5 || b.getLsbD 6 || b.getLsbD 7) = false →
        b = byte1 ((b.getLsbD 0).toNat + 2 * (b.getLsbD 1).toNat + 4 * (b.getLsbD 2).toNat + 8 * (b.getLsbD 3).toNat
          + 16 * (b.getLsbD 4).toNat) := by decide +kernel
    rintro ⟨hspare, rfl, rfl, rfl, rfl, rfl⟩
    exact hbyte b hspare

theorem present_iff (flags : Byte) (bit v : Nat) (o : Option Nat) :
    present flags bit v = o ↔ flags.getLsbD bit = o.isSome ∧ ∀ n, o = some n → v = n := by
  unfold present
  cases hbit : flags.getLsbD bit <;> cases o <;> simp

/-- What is written of an optional value where the bytes `l` stand: its own where it is present. -/
theorem getD_map_eq {α : Type} (o : Option Nat) (write : Nat → α) (l : α) (h : ∀ n, o = some n → write n = l) :
    (o.map write).getD l = l := by
  cases o with
  | none => rfl
  | some n => exact h n rfl

/-! ### The parts of the form -/

/-- The 28 bytes of the credential form by their parts (R193). -/
structure CredentialBytes where
  key : List Byte
  state : Byte
  holder : Byte
  flags : Byte
  profileCount : Byte
  profiles : List Byte
  floorCount : Byte
  floors : List Byte
  defaultFloor : Byte
  validFrom : List Byte
  validUntil : List Byte
  budget : Byte

namespace CredentialBytes

def frame (f : CredentialBytes) : List Byte :=
  f.key ++ (f.state :: f.holder :: f.flags :: f.profileCount :: (f.profiles ++ (f.floorCount :: (f.floors
    ++ (f.defaultFloor :: (f.validFrom ++ (f.validUntil ++ [f.budget])))))))

/-- Every part has its length. -/
structure Sized (f : CredentialBytes) : Prop where
  key : f.key.length = 5
  profiles : f.profiles.length = 4
  floors : f.floors.length = 4
  validFrom : f.validFrom.length = 4
  validUntil : f.validUntil.length = 4

theorem Sized.length_frame {f : CredentialBytes} (h : f.Sized) : f.frame.length = 28 := by
  simp only [frame, List.length_append, List.length_cons, List.length_nil, h.key, h.profiles, h.floors, h.validFrom,
    h.validUntil]

theorem exists_sized {args : List Byte} (h : args.length = 28) : ∃ f : CredentialBytes, f.Sized ∧ f.frame = args := by
  match args, h with
  | [k0, k1, k2, k3, k4, state, holder, flags, profileCount, p0, p1, p2, p3, floorCount, f0, f1, f2, f3, defaultFloor,
      a0, a1, a2, a3, u0, u1, u2, u3, budget], _ =>
    exact ⟨⟨[k0, k1, k2, k3, k4], state, holder, flags, profileCount, [p0, p1, p2, p3], floorCount, [f0, f1, f2, f3],
      defaultFloor, [a0, a1, a2, a3], [u0, u1, u2, u3], budget⟩, ⟨rfl, rfl, rfl, rfl, rfl⟩, rfl⟩

/-- What stands at the offsets of R193. -/
theorem Sized.offsets {f : CredentialBytes} (h : f.Sized) :
    byteAt f.frame 5 = f.state ∧ numAt f.frame 6 = f.holder.toNat ∧ byteAt f.frame 7 = f.flags
      ∧ numAt f.frame 8 = f.profileCount.toNat ∧ (∀ n ≤ 4, (f.frame.drop 9).take n = f.profiles.take n)
      ∧ numAt f.frame 13 = f.floorCount.toNat ∧ (∀ n ≤ 4, (f.frame.drop 14).take n = f.floors.take n)
      ∧ numAt f.frame 18 = f.defaultFloor.toNat ∧ field f.frame 19 4 = num f.validFrom
      ∧ field f.frame 23 4 = num f.validUntil ∧ numAt f.frame 27 = f.budget.toNat := by
  obtain ⟨key, state, holder, flags, profileCount, profiles, floorCount, floors, defaultFloor, validFrom, validUntil,
    budget⟩ := f
  obtain ⟨hkey, hprofiles, hfloors, hfrom, huntil⟩ := h
  dsimp only at hkey hprofiles hfloors hfrom huntil
  match key, profiles, floors, validFrom, validUntil, hkey, hprofiles, hfloors, hfrom, huntil with
  | [_, _, _, _, _], [_, _, _, _], [_, _, _, _], [_, _, _, _], [_, _, _, _], _, _, _, _, _ =>
    exact ⟨rfl, rfl, rfl, rfl, fun n hn => List.take_append_of_le_length hn, rfl,
      fun n hn => List.take_append_of_le_length hn, rfl, rfl, rfl, rfl⟩

/-- The record that the parts stand for, where R194 accepts them. -/
structure Reads (f : CredentialBytes) (c : Credential) : Prop where
  key : readKey f.frame 0 = c.key
  state : readLiveState f.state = some c.state
  holder : HolderClass.ofCode f.holder.toNat = some c.holder
  spare : (f.flags.getLsbD 5 || f.flags.getLsbD 6 || f.flags.getLsbD 7) = false
  profileCount : 1 ≤ f.profileCount.toNat ∧ f.profileCount.toNat ≤ 4
  floorCount : f.floorCount.toNat ≤ 4
  profiles : (f.profiles.take f.profileCount.toNat).map (fun b => b.toFin) = c.profiles
  personal : (f.floors.take f.floorCount.toNat).map BitVec.toNat = c.personal
  defaultFloor : present f.flags 0 f.defaultFloor.toNat = c.defaultFloor
  validFrom : present f.flags 1 (num f.validFrom) = c.validFrom
  validUntil : present f.flags 2 (num f.validUntil) = c.validUntil
  budget : present f.flags 3 f.budget.toNat = c.budget
  assist : f.flags.getLsbD 4 = c.assist

theorem Sized.readCredential_iff {f : CredentialBytes} (h : f.Sized) (c : Credential) :
    readCredential f.frame = some c ↔ f.Reads c := by
  obtain ⟨hstate, hholder, hflags, hcount, hprofiles, hfloorCount, hfloors, hdefault, hfrom, huntil, hbudget⟩ :=
    h.offsets
  rw [readCredential, if_pos h.length_frame, hstate, hholder, hflags, hcount, hfloorCount, hdefault, hfrom, huntil,
    hbudget]
  constructor
  · intro hread
    split at hread
    · next st holder hst hho =>
      dsimp only at hread
      rw [Option.ite_none_left_eq_some] at hread
      obtain ⟨hgood, hread⟩ := hread
      simp only [Bool.or_eq_true, not_or, beq_iff_eq, decide_eq_true_eq, Nat.not_lt, Bool.not_eq_true] at hgood
      obtain ⟨⟨⟨⟨⟨h5, h6⟩, h7⟩, hne⟩, hle⟩, hfle⟩ := hgood
      cases hread
      exact ⟨rfl, hst, hho, by rw [h5, h6, h7]; rfl, ⟨Nat.one_le_iff_ne_zero.2 hne, hle⟩, hfle,
        congrArg _ (hprofiles _ hle).symm, congrArg _ (hfloors _ hfle).symm, rfl, rfl, rfl, rfl, rfl⟩
    · cases hread
  · rintro ⟨hk, hst, hho, hspare, ⟨hone, hle⟩, hfle, hp, hfl, hd, ha, hu, hb, hassist⟩
    rw [hst, hho]
    have hgood : ¬ (f.flags.getLsbD 5 || f.flags.getLsbD 6 || f.flags.getLsbD 7 || f.profileCount.toNat == 0
        || decide (4 < f.profileCount.toNat) || decide (4 < f.floorCount.toNat)) = true := by
      rw [hspare]
      simp only [Bool.false_or, Bool.or_eq_true, beq_iff_eq, decide_eq_true_eq]
      omega
    dsimp only
    rw [if_neg hgood, hprofiles _ hle, hfloors _ hfle, hk, hp, hfl, hd, ha, hu, hb, hassist]

/-! ### The values of the form -/

/-- The values the parts stand for: the record read and the bytes not read. -/
def values (f : CredentialBytes) (c : Credential) : Args.CredentialValues where
  credential := c
  profilePad := f.profiles.drop f.profileCount.toNat
  floorPad := f.floors.drop f.floorCount.toNat
  unreadFloor := f.defaultFloor
  unreadFrom := f.validFrom
  unreadUntil := f.validUntil
  unreadBudget := f.budget

/-- The parts of the form of the values. -/
def ofValues (v : Args.CredentialValues) : CredentialBytes where
  key := Args.key v.credential.key
  state := byte1 v.credential.state.code
  holder := byte1 v.credential.holder.code
  flags := Args.presence v.credential
  profileCount := byte1 v.credential.profiles.length
  profiles := v.credential.profiles.map (fun p : Fin 256 => byte1 p.val) ++ v.profilePad
  floorCount := byte1 v.credential.personal.length
  floors := v.credential.personal.map byte1 ++ v.floorPad
  defaultFloor := (v.credential.defaultFloor.map byte1).getD v.unreadFloor
  validFrom := (v.credential.validFrom.map (be 4)).getD v.unreadFrom
  validUntil := (v.credential.validUntil.map (be 4)).getD v.unreadUntil
  budget := (v.credential.budget.map byte1).getD v.unreadBudget

/-- `Args.credential` lifts the profile numbers to numbers in the list monad before it writes them. -/
theorem map_lift_profiles (l : List (Fin 256)) :
    (do let p ← l; pure p.val : List Nat).map (fun n => byte1 n) = l.map fun p => byte1 p.val := by
  rw [List.bind_eq_flatMap, List.map_flatMap]
  exact List.map_eq_flatMap.symm

theorem frame_ofValues (v : Args.CredentialValues) : (ofValues v).frame = Args.credential v := by
  simp only [frame, ofValues, Args.credential, map_lift_profiles, List.append_assoc, List.cons_append, List.nil_append]

/-- A field of `n` bytes, written or not read, has its length. -/
theorem length_getD_be (o : Option Nat) {n : Nat} {l : List Byte} (h : l.length = n) :
    ((o.map (be n)).getD l).length = n := by
  cases o with
  | none => exact h
  | some x => exact be_length n x

theorem sized_ofValues {v : Args.CredentialValues} (h : Args.CredentialForm v) : (ofValues v).Sized where
  key := key_length _
  profiles := by
    have := h.profilePad
    simp only [ofValues, List.length_append, List.length_map]
    omega
  floors := by
    have := h.floorPad
    simp only [ofValues, List.length_append, List.length_map]
    omega
  validFrom := length_getD_be _ h.unreadFrom
  validUntil := length_getD_be _ h.unreadUntil

/-- An optional value is read as written where its bytes hold it. -/
theorem present_getD {α : Type} {flags : Byte} {bit : Nat} {o : Option Nat} {write : Nat → α} {read : α → Nat} (l : α)
    (hbit : flags.getLsbD bit = o.isSome) (hread : ∀ n, o = some n → read (write n) = n) :
    present flags bit (read ((o.map write).getD l)) = o := by
  rw [present_iff]
  refine ⟨hbit, fun n hn => ?_⟩
  rw [hn]
  exact hread n hn

theorem reads_ofValues {v : Args.CredentialValues} (h : Args.CredentialForm v) : (ofValues v).Reads v.credential := by
  obtain ⟨hsite, hcard, hstate, ⟨hone, hfour, -⟩, ⟨hfloors, -, hfloor⟩, hdefault, hfrom, huntil, -, hbudget⟩ := h.fits
  obtain ⟨hspare, h0, h1, h2, h3, h4⟩ := (flags_iff (Args.presence v.credential) _ _ _ _ _).1 rfl
  have hprofileCount : (byte1 v.credential.profiles.length).toNat = v.credential.profiles.length := byte1_toNat (by omega)
  have hfloorCount : (byte1 v.credential.personal.length).toNat = v.credential.personal.length := byte1_toNat (by omega)
  exact {
    key := (readKey_iff (key_length _) _ _ ⟨hsite, hcard⟩).2 rfl
    state := by
      rw [readLiveState_iff]
      obtain hs | hs := hstate
      · exact .inl ⟨hs, congrArg (fun x : RecordState => byte1 x.code) hs⟩
      · exact .inr ⟨hs, congrArg (fun x : RecordState => byte1 x.code) hs⟩
    holder := (HolderClass.ofCode_iff _ _).2 (by
      change (byte1 v.credential.holder.code).toNat = _
      cases v.credential.holder <;> rfl)
    spare := hspare
    profileCount := by
      change 1 ≤ (byte1 _).toNat ∧ (byte1 _).toNat ≤ 4
      rw [hprofileCount]
      exact ⟨hone, hfour⟩
    floorCount := by
      change (byte1 _).toNat ≤ 4
      rw [hfloorCount]
      exact hfloors
    profiles := by
      change ((v.credential.profiles.map (fun p : Fin 256 => byte1 p.val) ++ _).take (byte1 _).toNat).map _ = _
      rw [hprofileCount, List.take_left' (List.length_map _), List.map_map]
      exact List.map_id'' (fun p => Fin.ext (byte1_toNat p.isLt)) _
    personal := by
      change ((v.credential.personal.map byte1 ++ _).take (byte1 _).toNat).map _ = _
      rw [hfloorCount, List.take_left' (List.length_map _), List.map_map]
      exact (List.map_congr_left fun n hn => byte1_toNat (by have := hfloor n hn; omega)).trans (List.map_id _)
    defaultFloor := present_getD v.unreadFloor h0 fun n hn => byte1_toNat (by have := hdefault n hn; omega)
    validFrom := present_getD v.unreadFrom h1 fun n hn => num_be (by have := hfrom n hn; omega)
    validUntil := present_getD v.unreadUntil h2 fun n hn => num_be (by have := huntil n hn; omega)
    budget := present_getD v.unreadBudget h3 fun n hn => byte1_toNat (by have := hbudget n hn; omega)
    assist := h4 }

/-- The budget read from one byte fits in one byte, so a record that is read and passes the check meets R14. -/
theorem Reads.fits {f : CredentialBytes} {c : Credential} (h : f.Reads c) (hvalid : c.valid = true) :
    Args.CredentialFits c :=
  (c.fits_iff).2 ⟨hvalid, fun n hn => by
    rw [← ((present_iff _ _ _ _).1 h.budget).2 n hn]
    exact Nat.le_of_lt_succ f.budget.isLt⟩

theorem Sized.form_values {f : CredentialBytes} {c : Credential} (hf : f.Sized) (h : f.Reads c) (hvalid : c.valid = true) :
    Args.CredentialForm (f.values c) where
  fits := h.fits hvalid
  profilePad := by
    have := h.profileCount
    simp only [values, ← h.profiles, List.length_drop, List.length_map, List.length_take, hf.profiles]
    omega
  floorPad := by
    have := h.floorCount
    simp only [values, ← h.personal, List.length_drop, List.length_map, List.length_take, hf.floors]
    omega
  unreadFrom := hf.validFrom
  unreadUntil := hf.validUntil

/-- The values the parts stand for have those parts again. -/
theorem Sized.ofValues_values {f : CredentialBytes} {c : Credential} (hf : f.Sized) (h : f.Reads c)
    (hvalid : c.valid = true) : ofValues (f.values c) = f := by
  have hfits := h.fits hvalid
  have hkey : Args.key c.key = f.key :=
    ((readKey_iff hf.key _ _ ⟨hfits.site, hfits.card⟩).1 h.key).symm
  have hstate : byte1 c.state.code = f.state := by
    obtain ⟨hs, hb⟩ | ⟨hs, hb⟩ := (readLiveState_iff _ _).1 h.state <;> rw [hs, hb] <;> rfl
  have hholder : byte1 c.holder.code = f.holder := by
    rw [← (HolderClass.ofCode_iff _ _).1 h.holder, byte1_of_toNat]
  have hflags : Args.presence c = f.flags :=
    ((flags_iff f.flags _ _ _ _ _).2 ⟨h.spare, ((present_iff _ _ _ _).1 h.defaultFloor).1,
      ((present_iff _ _ _ _).1 h.validFrom).1, ((present_iff _ _ _ _).1 h.validUntil).1,
      ((present_iff _ _ _ _).1 h.budget).1, h.assist⟩).symm
  have hprofileCount : byte1 c.profiles.length = f.profileCount := by
    rw [← h.profiles, List.length_map, List.length_take, hf.profiles, Nat.min_eq_left h.profileCount.2, byte1_of_toNat]
  have hfloorCount : byte1 c.personal.length = f.floorCount := by
    rw [← h.personal, List.length_map, List.length_take, hf.floors, Nat.min_eq_left h.floorCount, byte1_of_toNat]
  have hprofiles : c.profiles.map (fun p : Fin 256 => byte1 p.val) ++ f.profiles.drop f.profileCount.toNat = f.profiles := by
    rw [← h.profiles, List.map_map]
    exact (congrArg (· ++ _) (List.map_id'' byte1_of_toNat _)).trans (List.take_append_drop _ _)
  have hfloors : c.personal.map byte1 ++ f.floors.drop f.floorCount.toNat = f.floors := by
    rw [← h.personal, List.map_map]
    exact (congrArg (· ++ _) (List.map_id'' byte1_of_toNat _)).trans (List.take_append_drop _ _)
  have hdefault : (c.defaultFloor.map byte1).getD f.defaultFloor = f.defaultFloor :=
    getD_map_eq _ _ _ fun n hn => by rw [← ((present_iff _ _ _ _).1 h.defaultFloor).2 n hn, byte1_of_toNat]
  have hfrom : (c.validFrom.map (be 4)).getD f.validFrom = f.validFrom :=
    getD_map_eq _ _ _ fun n hn => by rw [← ((present_iff _ _ _ _).1 h.validFrom).2 n hn, be_num_of_length hf.validFrom]
  have huntil : (c.validUntil.map (be 4)).getD f.validUntil = f.validUntil :=
    getD_map_eq _ _ _ fun n hn => by rw [← ((present_iff _ _ _ _).1 h.validUntil).2 n hn, be_num_of_length hf.validUntil]
  have hbudget : (c.budget.map byte1).getD f.budget = f.budget :=
    getD_map_eq _ _ _ fun n hn => by rw [← ((present_iff _ _ _ _).1 h.budget).2 n hn, byte1_of_toNat]
  simp only [ofValues, values, hkey, hstate, hholder, hflags, hprofileCount, hfloorCount, hprofiles, hfloors, hdefault,
    hfrom, huntil, hbudget]

end CredentialBytes

theorem readPut_eq_some_iff (args : List Byte) (x : StoreCommand) :
    readPut args = some x ↔ ∃ c, readCredential args = some c ∧ c.valid = true ∧ .put c = x := by
  rw [readPut]
  cases readCredential args with
  | none => simp only [reduceCtorEq, false_and, exists_false]
  | some c => simp only [Option.ite_none_right_eq_some, Option.some.injEq, exists_eq_left']

theorem readCredential_length {args : List Byte} {c : Credential} (h : readCredential args = some c) :
    args.length = 28 := by
  rw [readCredential, Option.ite_none_right_eq_some] at h
  exact h.1

/-- PUT CREDENTIAL takes exactly the forms that fitting records write (R14, R193, R194). -/
theorem readPut_iff (args : List Byte) (x : StoreCommand) :
    readPut args = some x ↔ ∃ v, Args.CredentialForm v ∧ args = Args.credential v ∧ .put v.credential = x := by
  rw [readPut_eq_some_iff]
  constructor
  · rintro ⟨c, hread, hvalid, rfl⟩
    obtain ⟨f, hf, rfl⟩ := CredentialBytes.exists_sized (readCredential_length hread)
    have h := (hf.readCredential_iff c).1 hread
    exact ⟨f.values c, hf.form_values h hvalid, by
      rw [← CredentialBytes.frame_ofValues, hf.ofValues_values h hvalid], rfl⟩
  · rintro ⟨v, hv, rfl, rfl⟩
    refine ⟨v.credential, ?_, ((v.credential.fits_iff).1 hv.fits).1, rfl⟩
    rw [← CredentialBytes.frame_ofValues, (CredentialBytes.sized_ofValues hv).readCredential_iff]
    exact CredentialBytes.reads_ofValues hv

/-! ### The six commands -/

/-- Settles O13: each command's reader reads exactly the argument frames that checked values write. -/
theorem storeCommandsQueueTheirFirstPhase : Obligations.StoreCommandsQueueTheirFirstPhase :=
  ⟨queuesPhase_of_read readPut readPut_iff (fun _ _ _ => rfl) fun _ => rfl,
    queuesPhase_of_read readGet readGet_iff (fun _ _ _ => rfl) fun _ => rfl,
    queuesPhase_of_read readDrop readDrop_iff (fun _ _ _ => rfl) fun _ => rfl,
    queuesPhase_of_read readSetState readSetState_iff (fun _ _ _ => rfl) fun _ => rfl,
    queuesPhase_of_read readReplenish readReplenish_iff (fun _ _ _ => rfl) fun _ => rfl,
    queuesPhase_of_read readReadSlot readReadSlot_iff (fun _ _ _ => rfl) fun _ => rfl⟩

end Sys2Proof.Machine
